-- ==== Sys2Proof/Word.lean ====
section
/-! DEFINITION. The word types of the block (00_scope.md R9, R10): stream bytes, 16-bit values, the 16-bit step word. -/

namespace Sys2Proof

/-- One datum of either stream and one frame register: 8 bits, bit 7 most significant (R9, R10). -/
abbrev Byte := BitVec 8

/-- A decoded measurement value or a checksum: 16 bits, unsigned (R9, R11). -/
abbrev Value := BitVec 16

/-- The step word `W` of 30_encoding.md R73: what the decoder reads in one cycle. -/
abbrev StepWord := BitVec 16

end Sys2Proof
end

