-- ==== Sys2Proof/Config.lean ====
section
/-! DEFINITION. The input ports of one cycle (10_state.md R20), the open parameters (00_scope.md R8), and the free values: every value the spec leaves open is an opaque constant, so that no proof can see it. -/

namespace Sys2Proof

/-- The input ports as sampled at one rising edge of `clk` (R20). `clk` itself is the step. -/
structure Inputs where
  rst       : Bool
  start     : Bool
  linkOpen  : Bool
  txReady   : Bool
  rxValid   : Bool
  rxData    : Byte
  rdTimeout : Bool
  deriving DecidableEq, Repr, Inhabited

namespace Config

/-- `T_READ` (R8, OPEN), in clock cycles. No rule of the block reads it. -/
opaque tRead : Nat

/-- `POLL_INTERVAL` (R8, OPEN), host side. No rule of the block reads it. -/
opaque pollInterval : Nat

/-- `BAUD` (R8): the serial line rate of the external transport. No rule of the block reads it. -/
def baud : Nat := 9600

/-- Free value: the inputs the environment presents in a cycle for which State holds no planned
inputs (93_implementation_defined.md items 8, 9, 12, 15, 16; log entry 2). -/
opaque freeInputs : (cycle : Nat) → Inputs

/-- Free value: what frame register `offset`, which held `held`, holds after a reset cycle: "its value
after reset is unspecified" (R210; 93_implementation_defined.md item 4; log entry 5). -/
opaque frameAfterReset : (cycle : Nat) → (offset : Nat) → (held : Byte) → Byte

/-- Free value: `CMD_ROM[7]`, which does not exist (R32) and is asked for only in CMD with
`cmd_idx = 7`, a state no run reaches (R34, R44; log entry 6). -/
opaque cmdRomBeyond : (cycle : Nat) → Byte

end Config

end Sys2Proof
end

