-- ==== Sys2Proof/Machine/State.lean ====
section
/-! DEFINITION. The state of the block: its registers (10_state.md R23 to R31, and no other: R40 to R42), and beside them the environment's plan of inputs and the record of what passed on the two streams; the faults, the refusals, and the state after reset (R46). -/

namespace Sys2Proof.Machine

/-- The sequencer states (R23). `unused7` is the code 7 that no rule reaches (R45, R118). -/
inductive SeqState where
  | idle
  | cmd
  | hunt
  | hdr1
  | payload
  | check
  | done
  | unused7
  deriving DecidableEq, Repr

/-- The outcomes of a poll (60_exceptions.md R181), what `finish` may record. -/
inductive OutcomeCode where
  | success
  | headerLost
  | secondHeaderMismatch
  | checksumError
  | transportIoError
  | transportUnavailable
  deriving DecidableEq, Repr

/-- The state of the block. The first group is the block's registers; the second is the model's own. -/
structure State where
  /-- `st` (R23). -/
  st : SeqState
  /-- `cmd_idx` (R24). -/
  cmdIdx : BitVec 3
  /-- `hunt_cnt` (R25). -/
  huntCnt : BitVec 4
  /-- `pay_cnt` (R26). -/
  payCnt : BitVec 4
  /-- `frame[0..11]` (R27), indexed by frame offset (R50). -/
  frame : Vector Byte 12
  /-- `rd_start_q` (R28). -/
  rdStartQ : Bool
  /-- `res_status` (R29). -/
  resStatus : BitVec 3
  /-- `res_f0` (R30). -/
  resF0 : Value
  /-- `res_f1` (R30). -/
  resF1 : Value
  /-- `res_f2` (R30). -/
  resF2 : Value
  /-- `res_csum_calc` (R31). -/
  resCsumCalc : Value
  /-- `res_csum_rx` (R31). -/
  resCsumRx : Value
  /-- The model's own: the inputs of the coming cycles, this cycle's first (R20, R79; log entry 2). -/
  stimulus : List Inputs
  /-- The model's own: the number of this cycle, the argument of every free value (R13; log entry 9). -/
  cycle : Nat
  /-- The model's own: the bytes consumed from the receive stream, oldest first (R22; log entry 9). -/
  rxLog : List Byte
  /-- The model's own: the bytes transferred on the transmit stream, oldest first (R22; log entry 9). -/
  txLog : List Byte
  /-- The model's own: which frame offsets the current poll has written (R44; log entry 9). -/
  frameWritten : Vector Bool 12
  /-- The model's own: how many outcomes were recorded since reset (R44, R182; log entry 9). -/
  outcomeCount : Nat
  deriving DecidableEq, Repr

/-- Why the machine stops. -/
inductive Fault where
  /-- Raised by PAY_BYTE when `pay_cnt` is above 9: the frame buffer has no register at `offset`, which
  is above 11 (R27, R50). Safe: the model stops; no run from reset comes there (R44; log entry 8). -/
  | frameOffset (offset : Nat)
  deriving DecidableEq, Repr

/-- Why an instruction has no meaning. -/
inductive Refusal where
  /-- An arm of exec that has no meaning yet. Safe. No arm raises it. -/
  | notModelled (mnemonic : String)
  /-- Raised by step when no row of the table matches the step word. Safe; R74 says that every word
  matches a row. -/
  | noRow (w : StepWord)
  deriving DecidableEq, Repr

/-- The state right after reset (R46, R213). The spec leaves the frame registers' values unspecified:
0x00 here is a DESIGN CHOICE (log entry 4). The model's own fields are empty (log entries 2, 9). -/
def State.reset : State where
  st := .idle
  cmdIdx := 0
  huntCnt := 0
  payCnt := 0
  frame := #v[0, 0, 0, 0, 0, 0, 0, 0, 0, 0, 0, 0]
  rdStartQ := false
  resStatus := 7
  resF0 := 0
  resF1 := 0
  resF2 := 0
  resCsumCalc := 0
  resCsumRx := 0
  stimulus := []
  cycle := 0
  rxLog := []
  txLog := []
  frameWritten := #v[false, false, false, false, false, false, false, false, false, false, false, false]
  outcomeCount := 0

end Sys2Proof.Machine
end

