-- ==== Sys2Proof/Machine/Operands.lean ====
section
/-! DEFINITION. The operands the rules read: the inputs of the cycle (10_state.md R20), the frame bytes (R27, 20_memory.md R51), 16-bit values from byte pairs (42_field_extract.md R160), and the packing of frame and window on a bus (30_encoding.md R81, R82). -/

namespace Sys2Proof.Machine

/-- The inputs sampled in this cycle: the environment's planned ones, else free (R20; log entry 2). -/
def State.inputNow (s : State) : Inputs :=
  match s.stimulus with
  | inp :: _ => inp
  | [] => Config.freeInputs s.cycle

/-- BE16 (R160): `be16(hi, lo) = hi * 256 + lo`, 0 to 65535. -/
def be16 (hi lo : Byte) : Value := BitVec.ofNat 16 (hi.toNat * 256 + lo.toNat)

/-- A frame of twelve bytes, by frame offset (R50, R51). -/
abbrev Frame := Vector Byte 12

/-- The six bytes of the field extractor's window, frame offsets 4 to 9 (R39, R161). -/
def window (f : Frame) : Vector Byte 6 := #v[f[4], f[5], f[6], f[7], f[8], f[9]]

/-- A frame on the 96-bit bus: offset `k` at `cv_frame[95-8k : 88-8k]` (R81). -/
def packFrame (f : Frame) : BitVec 96 :=
  f[0] ++ f[1] ++ f[2] ++ f[3] ++ f[4] ++ f[5] ++ f[6] ++ f[7] ++ f[8] ++ f[9] ++ f[10] ++ f[11]

/-- The frame on a 96-bit bus: `cv_frame[95-8k : 88-8k]` is the byte at offset `k` (R81). -/
def unpackFrame (b : BitVec 96) : Frame := Vector.ofFn fun k => b.extractLsb' (88 - 8 * k.val) 8

/-- A window on the 48-bit bus: window byte `j` at `fx_win[47-8j : 40-8j]` (R82). -/
def packWindow (w : Vector Byte 6) : BitVec 48 := w[0] ++ w[1] ++ w[2] ++ w[3] ++ w[4] ++ w[5]

/-- The window on a 48-bit bus: `fx_win[47-8j : 40-8j]` is window byte `j` (R82). -/
def unpackWindow (b : BitVec 48) : Vector Byte 6 := Vector.ofFn fun j => b.extractLsb' (40 - 8 * j.val) 8

/-- The frame offset of the next payload byte, `2 + pay_cnt` (R113); none past offset 11 (R27). -/
def payloadOffset (s : State) : Option (Fin 12) :=
  if h : 2 + s.payCnt.toNat < 12 then some ⟨2 + s.payCnt.toNat, h⟩ else none

end Sys2Proof.Machine
end

