-- ==== Sys2Proof/Machine/FieldExtract.lean ====
section
/-! DEFINITION. The field extractor (42_field_extract.md R160 to R165): combinational, inside the block and stand-alone. -/

namespace Sys2Proof.Machine

/-- EXTRACT3 (R161): lane `i` from window bytes `2i` (high) and `2i+1` (low). -/
def extract3 (w : Vector Byte 6) : Value × Value × Value :=
  (be16 w[0] w[1], be16 w[2] w[3], be16 w[4] w[5])

/-- The stand-alone field extractor on a 48-bit bus (R39, R82): `(fx_f0, fx_f1, fx_f2)`. -/
def fxUnit (fxWin : BitVec 48) : Value × Value × Value := extract3 (unpackWindow fxWin)

end Sys2Proof.Machine
end

