-- ==== Sys2Proof/Machine/Constants.lean ====
section
/-! DEFINITION. The wired constants (00_scope.md R7, 10_state.md R32): nothing stores or writes them. -/

namespace Sys2Proof.Machine

/-- `HDR0` (R7). -/
def hdr0 : Byte := 0x42
/-- `HDR1` (R7). -/
def hdr1 : Byte := 0x4D
/-- `HUNT_BUDGET`, in read attempts (R7). -/
def huntBudget : Nat := 10
/-- `PAYLOAD_LEN` (R7). -/
def payloadLen : Nat := 10
/-- `CMD_LEN` (R7). -/
def cmdLen : Nat := 7
/-- `CMD_ROM[0..6]` (R7, R32, R71). -/
def cmdRom : List Byte := [0x42, 0x4D, 0xE3, 0x00, 0x00, 0x01, 0x72]

end Sys2Proof.Machine
end

