-- ==== Sys2Proof/Syntax.lean ====
section
/-! DEFINITION. The block's instructions: one constructor per row of the transition table (30_encoding.md R74, opcode_table.json). -/

namespace Sys2Proof

/-- A decoded step word (R73, R74). The arguments of a constructor are the fields of the step word that
its row does not match, most significant first, under the letters of R73: `d` rx_data, `t` rd_timeout,
`v` rx_valid, `r` tx_ready, `l` link_open, `s` start. A row's rule reads some of them and ignores the
others. -/
inductive Instr where
  /-- Row 1, R100. -/
  | idleWait (d : Byte) (t v r l : Bool)
  /-- Row 2, R101. -/
  | idleNolink (d : Byte) (t v r : Bool)
  /-- Row 3, R102. -/
  | idleStart (d : Byte) (t v r : Bool)
  /-- Row 4, R103. -/
  | cmdStall (d : Byte) (t v l s : Bool)
  /-- Row 5, R104. -/
  | cmdSend (d : Byte) (t v l s : Bool)
  /-- Row 6, R105: `d` is matched, `0x42`. -/
  | huntMatch (t r l s : Bool)
  /-- Row 7, R106: taken only when `d` is not `0x42`. -/
  | huntDiscard (d : Byte) (t r l s : Bool)
  /-- Row 8, R107. -/
  | huntTimeout (d : Byte) (r l s : Bool)
  /-- Row 9, R108. -/
  | huntWait (d : Byte) (r l s : Bool)
  /-- Row 10, R109: `d` is matched, `0x4D`. -/
  | hdr1Match (t r l s : Bool)
  /-- Row 11, R110: taken only when `d` is not `0x4D`. -/
  | hdr1Mismatch (d : Byte) (t r l s : Bool)
  /-- Row 12, R111. -/
  | hdr1Timeout (d : Byte) (r l s : Bool)
  /-- Row 13, R112. -/
  | hdr1Wait (d : Byte) (r l s : Bool)
  /-- Row 14, R113. -/
  | payByte (d : Byte) (t r l s : Bool)
  /-- Row 15, R114. -/
  | payTimeout (d : Byte) (r l s : Bool)
  /-- Row 16, R115. -/
  | payWait (d : Byte) (r l s : Bool)
  /-- Row 17, R144. -/
  | checkEval (d : Byte) (t v r l s : Bool)
  /-- Row 18, R116. -/
  | doneRet (d : Byte) (t v r l s : Bool)
  /-- Row 19, R118. -/
  | illegalState (d : Byte) (t v r l s : Bool)
  deriving DecidableEq, Repr

/-- Why the decoder refuses a word. -/
inductive DecodeError where
  /-- No row of the table matches `w`. R74 says that there is no such word. -/
  | noRow (w : StepWord)
  deriving DecidableEq, Repr

end Sys2Proof
end

