-- ==== Sys2Proof/WellFormed.lean ====
section
/-! DEFINITION. Which instructions the table can yield: the earlier row wins where two rows overlap (30_encoding.md R74). -/

namespace Sys2Proof

/-- "row 7 is taken only when `d != 0x42` and row 11 only when `d != 0x4D`" (R74). Every other field may
hold any value. -/
def Instr.wellFormed : Instr → Bool
  | .idleWait _ _ _ _ _ => true
  | .idleNolink _ _ _ _ => true
  | .idleStart _ _ _ _ => true
  | .cmdStall _ _ _ _ _ => true
  | .cmdSend _ _ _ _ _ => true
  | .huntMatch _ _ _ _ => true
  | .huntDiscard d _ _ _ _ => d != 0x42
  | .huntTimeout _ _ _ _ => true
  | .huntWait _ _ _ _ => true
  | .hdr1Match _ _ _ _ => true
  | .hdr1Mismatch d _ _ _ _ => d != 0x4D
  | .hdr1Timeout _ _ _ _ => true
  | .hdr1Wait _ _ _ _ => true
  | .payByte _ _ _ _ _ => true
  | .payTimeout _ _ _ _ => true
  | .payWait _ _ _ _ => true
  | .checkEval _ _ _ _ _ _ => true
  | .doneRet _ _ _ _ _ _ => true
  | .illegalState _ _ _ _ _ _ => true

end Sys2Proof
end

