-- ==== Sys2Proof/Decode.lean ====
section
/-! DEFINITION. The step word's fields (30_encoding.md R73), the transition table (R74) as the decoder reads it, the decoder, and the encoder. -/

namespace Sys2Proof

/-- `W[2:0]`, the state code (R73). -/
def fieldSt (w : StepWord) : BitVec 3 := w.extractLsb' 0 3
/-- `W[3]`, `in.start` (R73). -/
def fieldS (w : StepWord) : Bool := w.getLsbD 3
/-- `W[4]`, `in.link_open` (R73). -/
def fieldL (w : StepWord) : Bool := w.getLsbD 4
/-- `W[5]`, `in.tx_ready` (R73). -/
def fieldR (w : StepWord) : Bool := w.getLsbD 5
/-- `W[6]`, `in.rx_valid` (R73). -/
def fieldV (w : StepWord) : Bool := w.getLsbD 6
/-- `W[7]`, `in.rd_timeout` (R73). -/
def fieldT (w : StepWord) : Bool := w.getLsbD 7
/-- `W[15:8]`, `in.rx_data` (R73). -/
def fieldD (w : StepWord) : Byte := w.extractLsb' 8 8

/-- The step word with the given fields (R73); `{a, b}` of R10 is `a ++ b`. -/
def packWord (d : Byte) (t v r l s : Bool) (st : BitVec 3) : StepWord :=
  d ++ BitVec.ofBool t ++ BitVec.ofBool v ++ BitVec.ofBool r ++ BitVec.ofBool l ++ BitVec.ofBool s ++ st

/-- One row of the table of R74. -/
structure Row where
  mnemonic  : String
  mask      : StepWord
  matchBits : StepWord
  /-- The instruction the row yields from a word it matches. -/
  build     : StepWord → Instr

/-- `(W & mask) == match` (R74). -/
def Row.hits (row : Row) (w : StepWord) : Bool := w &&& row.mask == row.matchBits

/-- The rows of state IDLE (R74, rows 1 to 3). -/
def rowsIdle : List Row :=
  [ ⟨"IDLE_WAIT", 0x000F, 0x0000, fun w => .idleWait (fieldD w) (fieldT w) (fieldV w) (fieldR w) (fieldL w)⟩,
    ⟨"IDLE_NOLINK", 0x001F, 0x0008, fun w => .idleNolink (fieldD w) (fieldT w) (fieldV w) (fieldR w)⟩,
    ⟨"IDLE_START", 0x001F, 0x0018, fun w => .idleStart (fieldD w) (fieldT w) (fieldV w) (fieldR w)⟩ ]

/-- The rows of state CMD (R74, rows 4 and 5). -/
def rowsCmd : List Row :=
  [ ⟨"CMD_STALL", 0x0027, 0x0001, fun w => .cmdStall (fieldD w) (fieldT w) (fieldV w) (fieldL w) (fieldS w)⟩,
    ⟨"CMD_SEND", 0x0027, 0x0021, fun w => .cmdSend (fieldD w) (fieldT w) (fieldV w) (fieldL w) (fieldS w)⟩ ]

/-- The rows of state HUNT (R74, rows 6 to 9). -/
def rowsHunt : List Row :=
  [ ⟨"HUNT_MATCH", 0xFF47, 0x4242, fun w => .huntMatch (fieldT w) (fieldR w) (fieldL w) (fieldS w)⟩,
    ⟨"HUNT_DISCARD", 0x0047, 0x0042, fun w => .huntDiscard (fieldD w) (fieldT w) (fieldR w) (fieldL w) (fieldS w)⟩,
    ⟨"HUNT_TIMEOUT", 0x00C7, 0x0082, fun w => .huntTimeout (fieldD w) (fieldR w) (fieldL w) (fieldS w)⟩,
    ⟨"HUNT_WAIT", 0x00C7, 0x0002, fun w => .huntWait (fieldD w) (fieldR w) (fieldL w) (fieldS w)⟩ ]

/-- The rows of state HDR1 (R74, rows 10 to 13). -/
def rowsHdr1 : List Row :=
  [ ⟨"HDR1_MATCH", 0xFF47, 0x4D43, fun w => .hdr1Match (fieldT w) (fieldR w) (fieldL w) (fieldS w)⟩,
    ⟨"HDR1_MISMATCH", 0x0047, 0x0043, fun w => .hdr1Mismatch (fieldD w) (fieldT w) (fieldR w) (fieldL w) (fieldS w)⟩,
    ⟨"HDR1_TIMEOUT", 0x00C7, 0x0083, fun w => .hdr1Timeout (fieldD w) (fieldR w) (fieldL w) (fieldS w)⟩,
    ⟨"HDR1_WAIT", 0x00C7, 0x0003, fun w => .hdr1Wait (fieldD w) (fieldR w) (fieldL w) (fieldS w)⟩ ]

/-- The rows of state PAYLOAD (R74, rows 14 to 16). -/
def rowsPayload : List Row :=
  [ ⟨"PAY_BYTE", 0x0047, 0x0044, fun w => .payByte (fieldD w) (fieldT w) (fieldR w) (fieldL w) (fieldS w)⟩,
    ⟨"PAY_TIMEOUT", 0x00C7, 0x0084, fun w => .payTimeout (fieldD w) (fieldR w) (fieldL w) (fieldS w)⟩,
    ⟨"PAY_WAIT", 0x00C7, 0x0004, fun w => .payWait (fieldD w) (fieldR w) (fieldL w) (fieldS w)⟩ ]

/-- The rows of the states CHECK, DONE and 7 (R74, rows 17 to 19). -/
def rowsOneCycle : List Row :=
  [ ⟨"CHECK_EVAL", 0x0007, 0x0005, fun w => .checkEval (fieldD w) (fieldT w) (fieldV w) (fieldR w) (fieldL w) (fieldS w)⟩,
    ⟨"DONE_RET", 0x0007, 0x0006, fun w => .doneRet (fieldD w) (fieldT w) (fieldV w) (fieldR w) (fieldL w) (fieldS w)⟩,
    ⟨"ILLEGAL_STATE", 0x0007, 0x0007, fun w => .illegalState (fieldD w) (fieldT w) (fieldV w) (fieldR w) (fieldL w) (fieldS w)⟩ ]

/-- The transition table, in row order (R74). -/
def table : List Row :=
  rowsIdle ++ rowsCmd ++ rowsHunt ++ rowsHdr1 ++ rowsPayload ++ rowsOneCycle

/-- "the rule for the cycle is the first row of the following table, in row order, for which
`(W & mask) == match`" (R74). -/
def decode (w : StepWord) : Except DecodeError Instr :=
  match table.find? (fun row => row.hits w) with
  | some row => .ok (row.build w)
  | none => .error (.noRow w)

/-- The instruction the decoder reads from an instruction of `nbits` bits with value `w`, bit 0 least
significant; the bits from `nbits` up are 0. The step word is one 16-bit vector (R73): a longer one is
none (log entry 16). -/
def decodeTableWord (nbits w : Nat) : Option Instr :=
  if nbits ≤ 16 then
    match decode (BitVec.ofNat 16 (w % 2 ^ nbits)) with
    | .ok i => some i
    | .error _ => none
  else none

/-- The step word of a decoded instruction, from the patterns of R74: the matched bits of its row, and
its own fields in the places R73 gives them. -/
def encode : Instr → StepWord
  | .idleWait d t v r l => packWord d t v r l false 0
  | .idleNolink d t v r => packWord d t v r false true 0
  | .idleStart d t v r => packWord d t v r true true 0
  | .cmdStall d t v l s => packWord d t v false l s 1
  | .cmdSend d t v l s => packWord d t v true l s 1
  | .huntMatch t r l s => packWord 0x42 t true r l s 2
  | .huntDiscard d t r l s => packWord d t true r l s 2
  | .huntTimeout d r l s => packWord d true false r l s 2
  | .huntWait d r l s => packWord d false false r l s 2
  | .hdr1Match t r l s => packWord 0x4D t true r l s 3
  | .hdr1Mismatch d t r l s => packWord d t true r l s 3
  | .hdr1Timeout d r l s => packWord d true false r l s 3
  | .hdr1Wait d r l s => packWord d false false r l s 3
  | .payByte d t r l s => packWord d t true r l s 4
  | .payTimeout d r l s => packWord d true false r l s 4
  | .payWait d r l s => packWord d false false r l s 4
  | .checkEval d t v r l s => packWord d t v r l s 5
  | .doneRet d t v r l s => packWord d t v r l s 6
  | .illegalState d t v r l s => packWord d t v r l s 7

end Sys2Proof
end

