-- ==== Sys2Proof/Machine/Encodings.lean ====
section
/-! DEFINITION. The numeric codes of the sequencer states (10_state.md R23) and of the outcomes (60_exceptions.md R181), and the step word of a cycle (30_encoding.md R73). -/

namespace Sys2Proof.Machine

/-- The state codes (R23). -/
def SeqState.code : SeqState → BitVec 3
  | .idle => 0
  | .cmd => 1
  | .hunt => 2
  | .hdr1 => 3
  | .payload => 4
  | .check => 5
  | .done => 6
  | .unused7 => 7

/-- The state with a given code (R23). -/
def SeqState.ofCode (c : BitVec 3) : SeqState :=
  if c = 0 then .idle
  else if c = 1 then .cmd
  else if c = 2 then .hunt
  else if c = 3 then .hdr1
  else if c = 4 then .payload
  else if c = 5 then .check
  else if c = 6 then .done
  else .unused7

/-- The outcome codes (R181). 6 is reserved: no outcome has it. -/
def OutcomeCode.code : OutcomeCode → BitVec 3
  | .success => 0
  | .headerLost => 1
  | .secondHeaderMismatch => 2
  | .checksumError => 3
  | .transportIoError => 4
  | .transportUnavailable => 5

/-- Status code 7, NONE: no outcome yet (R181). -/
def statusNone : BitVec 3 := 7

/-- The step word of a cycle: the state code and the inputs, without `rst` (R73). -/
def stepWord (st : SeqState) (inp : Inputs) : StepWord :=
  packWord inp.rxData inp.rdTimeout inp.rxValid inp.txReady inp.linkOpen inp.start st.code

/-- The inputs, with `rst = 0`, that the input part of a step word stands for (R73, R79). -/
def inputsOfWord (w : StepWord) : Inputs where
  rst := false
  start := fieldS w
  linkOpen := fieldL w
  txReady := fieldR w
  rxValid := fieldV w
  rxData := fieldD w
  rdTimeout := fieldT w

end Sys2Proof.Machine
end

