-- ==== Sys2Proof/Machine/Flags.lean ====
section
/-! DEFINITION. The output ports as functions of the registers (10_state.md R21, R33 to R37) and the handshakes (R22). -/

namespace Sys2Proof.Machine

/-- `out.busy` (R33). -/
def State.busy (s : State) : Bool := s.st != .idle

/-- `out.done` (R33). -/
def State.done (s : State) : Bool := s.st == .done

/-- `out.tx_valid` (R34). -/
def State.txValid (s : State) : Bool := s.st == .cmd

/-- `CMD_ROM[q.cmd_idx]` (R32). There is no entry 7: a free value (log entry 6). -/
def State.cmdByte (s : State) : Byte :=
  match cmdRom[s.cmdIdx.toNat]? with
  | some b => b
  | none => Config.cmdRomBeyond s.cycle

/-- `out.tx_data` (R34). -/
def State.txData (s : State) : Byte := if s.st = .cmd then s.cmdByte else 0x00

/-- `out.rx_ready` (R35). -/
def State.rxReady (s : State) : Bool := s.st == .hunt || s.st == .hdr1 || s.st == .payload

/-- `out.rd_start` (R36). -/
def State.rdStart (s : State) : Bool := s.rdStartQ

/-- The output ports of one cycle (R21). -/
structure Outputs where
  busy        : Bool
  done        : Bool
  txValid     : Bool
  txData      : Byte
  rxReady     : Bool
  rdStart     : Bool
  resStatus   : BitVec 3
  resF0       : Value
  resF1       : Value
  resF2       : Value
  resCsumCalc : Value
  resCsumRx   : Value
  deriving DecidableEq, Repr

/-- All output ports, functions of the state alone (R21, R33 to R37). -/
def State.outputs (s : State) : Outputs where
  busy := s.busy
  done := s.done
  txValid := s.txValid
  txData := s.txData
  rxReady := s.rxReady
  rdStart := s.rdStart
  resStatus := s.resStatus
  resF0 := s.resF0
  resF1 := s.resF1
  resF2 := s.resF2
  resCsumCalc := s.resCsumCalc
  resCsumRx := s.resCsumRx

/-- `rx_fire = in.rx_valid & out.rx_ready` (R22). -/
def rxFire (inp : Inputs) (s : State) : Bool := inp.rxValid && s.rxReady

/-- `tx_fire = out.tx_valid & in.tx_ready` (R22). -/
def txFire (inp : Inputs) (s : State) : Bool := s.txValid && inp.txReady

end Sys2Proof.Machine
end

