-- ==== Sys2Proof/Machine/Ops.lean ====
section
/-! DEFINITION. The named operations the rules share: the default of every rule (00_scope.md R13), the stream transfers (R12), the frame write (R27), recording an outcome (60_exceptions.md R180, the counterpart of taking an exception) and the return from it (R186), the reset action (70_reset_and_hazards.md R210), and the end of a cycle. -/

namespace Sys2Proof.Machine

/-- Every rule that does not set `rd_start_q` clears it (R13, R28). -/
def beginRule (s : State) : State := { s with rdStartQ := false }

/-- A new read operation begins: `q.rd_start_q <- 1` (R28, R119). -/
def startRead (s : State) : State := { s with rdStartQ := true }

/-- `RxTake()` of the byte `b`: it is consumed from the receive stream (R12, R22). -/
def rxTake (b : Byte) (s : State) : State := { s with rxLog := s.rxLog ++ [b] }

/-- `TxPut(b)`: `b` is transferred on the transmit stream (R12, R22). -/
def txPut (b : Byte) (s : State) : State := { s with txLog := s.txLog ++ [b] }

/-- `q.frame[k] <- b` (R27). -/
def storeFrame (k : Fin 12) (b : Byte) (s : State) : State :=
  { s with
    frame := s.frame.set k b
    frameWritten := s.frameWritten.set k true }

/-- A poll begins: none of the frame is written in it yet (R14; the model's own field, log entry 9). -/
def beginPoll (s : State) : State := { s with frameWritten := Vector.replicate 12 false }

/-- `finish(code, f0, f1, f2, cc, cr)` (R180): "the only way a poll ends". The last update counts the
outcome, the model's own (log entry 9). -/
def finish (code : OutcomeCode) (f0 f1 f2 cc cr : Value) (s : State) : State :=
  { s with
    resStatus := code.code
    resF0 := f0
    resF1 := f1
    resF2 := f2
    resCsumCalc := cc
    resCsumRx := cr
    st := .done
    outcomeCount := s.outcomeCount + 1 }

/-- `finish(code)` with its default arguments (R180). -/
def finishFailed (code : OutcomeCode) (s : State) : State := finish code 0 0 0 0 0 s

/-- The return from a recorded outcome: `q.st <- IDLE`, nothing restored (R116, R186). -/
def returnToIdle (s : State) : State := { s with st := .idle }

/-- The results are cleared to NONE when a poll starts (R29, R30, R31, R102). -/
def clearResults (s : State) : State :=
  { s with
    resStatus := statusNone
    resF0 := 0
    resF1 := 0
    resF2 := 0
    resCsumCalc := 0
    resCsumRx := 0 }

/-- One hunt attempt ended without `0x42` (R106, R107): it is counted, and the tenth ends the poll with
HEADER_LOST; otherwise the next attempt begins. -/
def failAttempt (s : State) : State :=
  if s.huntCnt.toNat + 1 = huntBudget then
    finishFailed .headerLost { s with huntCnt := BitVec.ofNat 4 huntBudget }
  else
    startRead { s with huntCnt := s.huntCnt + 1 }

/-- The transfers the handshakes show in a reset cycle still happen on the streams (R210, R22). -/
def resetTransfers (inp : Inputs) (s : State) : State :=
  { s with
    rxLog := if rxFire inp s then s.rxLog ++ [inp.rxData] else s.rxLog
    txLog := if txFire inp s then s.txLog ++ [s.txData] else s.txLog }

/-- The reset values of the registers (R46, R210). The frame's values after reset are unspecified: free
values (log entry 5). The count of outcomes and the marks of written offsets start again. -/
def resetRegisters (s : State) : State :=
  { s with
    st := .idle
    cmdIdx := 0
    huntCnt := 0
    payCnt := 0
    frame := Vector.ofFn fun k => Config.frameAfterReset s.cycle k.val s.frame[k.val]
    rdStartQ := false
    resStatus := statusNone
    resF0 := 0
    resF1 := 0
    resF2 := 0
    resCsumCalc := 0
    resCsumRx := 0
    frameWritten := Vector.replicate 12 false
    outcomeCount := 0 }

/-- The whole effect of a cycle with `rst = 1` (R210, R211). -/
def resetCycle (inp : Inputs) (s : State) : State := resetRegisters (resetTransfers inp s)

/-- The cycle ends: the environment's next inputs come up, and cycles are counted (R13, R20). -/
def endCycle (s : State) : State := { s with stimulus := s.stimulus.tail, cycle := s.cycle + 1 }

/-- The cycle ends after the rule that was applied in it. -/
def closeCycle : Host.Outcome State Fault Refusal → Host.Outcome State Fault Refusal
  | .next s => .next (endCycle s)
  | .fault r => .fault r
  | .refused r => .refused r

/-- The state in which the next cycle decodes the step word `w`: the register `st` and this cycle's inputs
are taken from it, everything else is kept (log entry 3). -/
def placeStepWord (w : StepWord) (s : State) : State :=
  { s with
    st := SeqState.ofCode (fieldSt w)
    stimulus := inputsOfWord w :: s.stimulus.tail }

end Sys2Proof.Machine
end

