-- ==== Sys2Proof/Machine/Checksum.lean ====
section
/-! DEFINITION. The checksum validator (41_checksum.md R140 to R147), inside the block and stand-alone, and the meaning of CHECK_EVAL (R144). -/

namespace Sys2Proof.Machine

/-- CSUM16 (R140): the sum of the bytes at frame offsets 0 to 9, mod 2^16. -/
def csum16 (f : Frame) : Value :=
  BitVec.ofNat 16 (f[0].toNat + f[1].toNat + f[2].toNat + f[3].toNat + f[4].toNat
    + f[5].toNat + f[6].toNat + f[7].toNat + f[8].toNat + f[9].toNat)

/-- CSRX (R141): the transmitted checksum, big-endian at frame offsets 10 and 11. -/
def csrx (f : Frame) : Value := be16 f[10] f[11]

/-- CSOK (R142). -/
def csok (f : Frame) : Bool := csum16 f == csrx f

/-- The stand-alone checksum validator on a 96-bit bus (R38, R81, R146): `(cv_sum, cv_rx, cv_ok)`. -/
def csvUnit (cvFrame : BitVec 96) : Value × Value × Bool :=
  (csum16 (unpackFrame cvFrame), csrx (unpackFrame cvFrame), csok (unpackFrame cvFrame))

/-- CHECK_EVAL (R144): validate the stored frame, decode it if valid, record the outcome. -/
def execCheckEval (s : State) : Host.Outcome State Fault Refusal :=
  if csok s.frame then
    .next (finish .success (extract3 (window s.frame)).1 (extract3 (window s.frame)).2.1
      (extract3 (window s.frame)).2.2 (csum16 s.frame) (csrx s.frame) (beginRule s))
  else
    .next (finish .checksumError 0 0 0 (csum16 s.frame) (csrx s.frame) (beginRule s))

end Sys2Proof.Machine
end

