-- ==== Sys2Proof/Machine/FrameSync.lean ====
section
/-! DEFINITION. The meanings of the frame synchronizer's transitions (40_frame_sync.md R100 to R118), one per row of the table. -/

namespace Sys2Proof.Machine

/-- IDLE_WAIT (R100). -/
def execIdleWait (s : State) : Host.Outcome State Fault Refusal := .next (beginRule s)

/-- IDLE_NOLINK (R101). -/
def execIdleNolink (s : State) : Host.Outcome State Fault Refusal :=
  .next (finishFailed .transportUnavailable (beginPoll (beginRule s)))

/-- IDLE_START (R102). -/
def execIdleStart (s : State) : Host.Outcome State Fault Refusal :=
  .next { clearResults (beginPoll (beginRule s)) with cmdIdx := 0, st := .cmd }

/-- CMD_STALL (R103). -/
def execCmdStall (s : State) : Host.Outcome State Fault Refusal := .next (beginRule s)

/-- CMD_SEND (R104). `cmd_idx` has 3 bits (R24); its step past 7 is unreachable (log entry 7). -/
def execCmdSend (s : State) : Host.Outcome State Fault Refusal :=
  if s.cmdIdx.toNat = cmdLen - 1 then
    .next (startRead { txPut s.cmdByte (beginRule s) with cmdIdx := s.cmdIdx + 1, huntCnt := 0, st := .hunt })
  else
    .next { txPut s.cmdByte (beginRule s) with cmdIdx := s.cmdIdx + 1 }

/-- HUNT_MATCH (R105). The byte taken is the matched one, `0x42`. -/
def execHuntMatch (s : State) : Host.Outcome State Fault Refusal :=
  .next { startRead (storeFrame 0 hdr0 (rxTake hdr0 s)) with st := .hdr1 }

/-- HUNT_DISCARD (R106). -/
def execHuntDiscard (d : Byte) (s : State) : Host.Outcome State Fault Refusal :=
  .next (failAttempt (rxTake d (beginRule s)))

/-- HUNT_TIMEOUT (R107). -/
def execHuntTimeout (s : State) : Host.Outcome State Fault Refusal :=
  .next (failAttempt (beginRule s))

/-- HUNT_WAIT (R108). -/
def execHuntWait (s : State) : Host.Outcome State Fault Refusal := .next (beginRule s)

/-- HDR1_MATCH (R109). The byte taken is the matched one, `0x4D`. -/
def execHdr1Match (s : State) : Host.Outcome State Fault Refusal :=
  .next { startRead (storeFrame 1 hdr1 (rxTake hdr1 s)) with payCnt := 0, st := .payload }

/-- HDR1_MISMATCH (R110). -/
def execHdr1Mismatch (d : Byte) (s : State) : Host.Outcome State Fault Refusal :=
  .next (finishFailed .secondHeaderMismatch (rxTake d (beginRule s)))

/-- HDR1_TIMEOUT (R111). -/
def execHdr1Timeout (s : State) : Host.Outcome State Fault Refusal :=
  .next (finishFailed .secondHeaderMismatch (beginRule s))

/-- HDR1_WAIT (R112). -/
def execHdr1Wait (s : State) : Host.Outcome State Fault Refusal := .next (beginRule s)

/-- PAY_BYTE (R113): `d` is the byte, `t` is `rd_timeout`. The frame has no register past offset 11
(log entry 8). -/
def execPayByte (d : Byte) (t : Bool) (s : State) : Host.Outcome State Fault Refusal :=
  match payloadOffset s with
  | some k =>
    if s.payCnt.toNat = payloadLen - 1 then
      .next { storeFrame k d (rxTake d (beginRule s)) with payCnt := s.payCnt + 1, st := .check }
    else if t then
      .next (finishFailed .transportIoError { storeFrame k d (rxTake d (beginRule s)) with payCnt := s.payCnt + 1 })
    else
      .next { storeFrame k d (rxTake d (beginRule s)) with payCnt := s.payCnt + 1 }
  | none => .fault (.frameOffset (2 + s.payCnt.toNat))

/-- PAY_TIMEOUT (R114). -/
def execPayTimeout (s : State) : Host.Outcome State Fault Refusal :=
  .next (finishFailed .transportIoError (beginRule s))

/-- PAY_WAIT (R115). -/
def execPayWait (s : State) : Host.Outcome State Fault Refusal := .next (beginRule s)

/-- DONE_RET (R116). -/
def execDoneRet (s : State) : Host.Outcome State Fault Refusal := .next (returnToIdle (beginRule s))

/-- ILLEGAL_STATE (R118). -/
def execIllegalState (s : State) : Host.Outcome State Fault Refusal :=
  .next { beginRule s with st := .idle }

end Sys2Proof.Machine
end

