-- ==== Sys2Proof/Machine/Dispatch.lean ====
section
/-! DEFINITION. exec: one arm per row of the transition table, each one call of its meaning. -/

namespace Sys2Proof.Machine

def exec (i : Instr) (s : State) : Host.Outcome State Fault Refusal :=
  match i with
  | .idleWait _ _ _ _ _ => Sys2Proof.Machine.execIdleWait s
  | .idleNolink _ _ _ _ => Sys2Proof.Machine.execIdleNolink s
  | .idleStart _ _ _ _ => Sys2Proof.Machine.execIdleStart s
  | .cmdStall _ _ _ _ _ => Sys2Proof.Machine.execCmdStall s
  | .cmdSend _ _ _ _ _ => Sys2Proof.Machine.execCmdSend s
  | .huntMatch _ _ _ _ => Sys2Proof.Machine.execHuntMatch s
  | .huntDiscard d _ _ _ _ => Sys2Proof.Machine.execHuntDiscard d s
  | .huntTimeout _ _ _ _ => Sys2Proof.Machine.execHuntTimeout s
  | .huntWait _ _ _ _ => Sys2Proof.Machine.execHuntWait s
  | .hdr1Match _ _ _ _ => Sys2Proof.Machine.execHdr1Match s
  | .hdr1Mismatch d _ _ _ _ => Sys2Proof.Machine.execHdr1Mismatch d s
  | .hdr1Timeout _ _ _ _ => Sys2Proof.Machine.execHdr1Timeout s
  | .hdr1Wait _ _ _ _ => Sys2Proof.Machine.execHdr1Wait s
  | .payByte d t _ _ _ => Sys2Proof.Machine.execPayByte d t s
  | .payTimeout _ _ _ _ => Sys2Proof.Machine.execPayTimeout s
  | .payWait _ _ _ _ => Sys2Proof.Machine.execPayWait s
  | .checkEval _ _ _ _ _ _ => Sys2Proof.Machine.execCheckEval s
  | .doneRet _ _ _ _ _ _ => Sys2Proof.Machine.execDoneRet s
  | .illegalState _ _ _ _ _ _ => Sys2Proof.Machine.execIllegalState s

end Sys2Proof.Machine
end

