-- ==== Sys2Proof/Machine/Step.lean ====
section
/-! DEFINITION. One step: one clock cycle (00_scope.md R13). -/

namespace Sys2Proof.Machine

/-- One clock cycle (R13): with `rst = 1` the reset action (R210, R211), else the rule that the step word
of this cycle selects (R73, R74). -/
def step (s : State) : Host.Outcome State Fault Refusal :=
  if s.inputNow.rst then .next (endCycle (resetCycle s.inputNow s))
  else
    match decode (stepWord s.st s.inputNow) with
    | .ok i => closeCycle (exec i s)
    | .error (.noRow w) => .refused (.noRow w)

/-- `s` with the step word whose `nbits` low bits are those of `w` placed as the one the next cycle
decodes (log entry 3). -/
def State.withFetchWord (s : State) (nbits w : Nat) : State :=
  placeStepWord (BitVec.ofNat 16 (w % 2 ^ nbits)) s

end Sys2Proof.Machine
end

