-- ==== Sys2Proof/Machine/Stimulus.lean ====
section
/-! DEFINITION. The stimulus notation (30_encoding.md R79 to R81): a way to write the inputs of successive cycles, which become `State.stimulus`. -/

namespace Sys2Proof.Machine

/-- The `name=value` pairs of a `CYC` line; an input not named has its default (R79). `linkOpen = none`
is the default `L`. -/
structure CycleArgs where
  rst       : Bool := false
  start     : Bool := false
  linkOpen  : Option Bool := none
  txReady   : Bool := false
  rxValid   : Bool := false
  rxData    : Byte := 0x00
  rdTimeout : Bool := false
  deriving DecidableEq, Repr

/-- The lines of a stimulus program (R79, R80, R81). -/
inductive Line where
  | cyc (args : CycleArgs)
  | idle (n : Nat)
  | start
  | txack
  | cmdack
  | rx (b : Byte)
  | rxs (bs : List Byte)
  | timeout
  | rxTo (b : Byte)
  | reset
  | linkdown
  | linkup
  | framex (b2 b3 : Byte) (a b c cs : Value)
  | frame (a b c : Value)
  deriving DecidableEq, Repr

/-- The inputs of one `CYC` cycle, where the link is `link` (R79). -/
def CycleArgs.inputs (link : Bool) (a : CycleArgs) : Inputs where
  rst := a.rst
  start := a.start
  linkOpen := a.linkOpen.getD link
  txReady := a.txReady
  rxValid := a.rxValid
  rxData := a.rxData
  rdTimeout := a.rdTimeout

/-- `v[15:8]` of a 16-bit value (R10). -/
def highByte (v : Value) : Byte := v.extractLsb' 8 8
/-- `v[7:0]` of a 16-bit value (R10). -/
def lowByte (v : Value) : Byte := v.extractLsb' 0 8

/-- The twelve bytes of `FRAMEX b2 b3 a b c cs` (R81, R70). -/
def framexBytes (b2 b3 : Byte) (a b c cs : Value) : Frame :=
  #v[0x42, 0x4D, b2, b3, highByte a, lowByte a, highByte b, lowByte b, highByte c, lowByte c, highByte cs, lowByte cs]

/-- The checksum `FRAME a b c` carries, the one that makes the frame valid (R81, R140). -/
def frameChecksum (a b c : Value) : Value :=
  BitVec.ofNat 16 (0x42 + 0x4D + (highByte a).toNat + (lowByte a).toNat + (highByte b).toNat + (lowByte b).toNat
    + (highByte c).toNat + (lowByte c).toNat)

/-- The cycle of `RX b` (R80). -/
def rxCycle (b : Byte) : CycleArgs := { rxValid := true, rxData := b }

/-- The cycles of one line (R80, R81); none for `LINKDOWN` and `LINKUP`. -/
def Line.cycles : Line → List CycleArgs
  | .cyc args => [args]
  | .idle n => List.replicate n {}
  | .start => [{ start := true }]
  | .txack => [{ txReady := true }]
  | .cmdack => List.replicate 7 { txReady := true }
  | .rx b => [rxCycle b]
  | .rxs bs => bs.map rxCycle
  | .timeout => [{ rdTimeout := true }]
  | .rxTo b => [{ rxValid := true, rxData := b, rdTimeout := true }]
  | .reset => [{ rst := true }]
  | .linkdown => []
  | .linkup => []
  | .framex b2 b3 a b c cs => (framexBytes b2 b3 a b c cs).toList.map rxCycle
  | .frame a b c => (framexBytes 0 0 a b c (frameChecksum a b c)).toList.map rxCycle

/-- `L` after a line (R79). -/
def Line.link (link : Bool) : Line → Bool
  | .linkdown => false
  | .linkup => true
  | .cyc _ => link
  | .idle _ => link
  | .start => link
  | .txack => link
  | .cmdack => link
  | .rx _ => link
  | .rxs _ => link
  | .timeout => link
  | .rxTo _ => link
  | .reset => link
  | .framex _ _ _ _ _ _ => link
  | .frame _ _ _ => link

/-- The inputs of the cycles of a program, from `L = link` on (R79). -/
def expandFrom (link : Bool) : List Line → List Inputs
  | [] => []
  | line :: rest => line.cycles.map (fun a => a.inputs link) ++ expandFrom (line.link link) rest

/-- The inputs of a stimulus program: `L` is 1 at its start (R79). -/
def expand (program : List Line) : List Inputs := expandFrom true program

/-- The encoding of a cycle: its step word with `W[2:0] = 000` (R79). -/
def cycleEncoding (inp : Inputs) : StepWord := stepWord .idle inp

end Sys2Proof.Machine
end

