-- ==== Sys2Proof/Safety.lean ====
section
/-! DEFINITION. The terms the claims use: the launch predicate (70_reset_and_hazards.md R213), the invariants (10_state.md R44), runs and the environment's contract (60_exceptions.md R189, R192), and the spans of input cycles that make up a poll (40_frame_sync.md R117). -/

namespace Sys2Proof.Machine

/-- Clean entry, "a model's launch predicate is exactly this list" (R213). -/
structure State.CleanEntry (s : State) : Prop where
  st : s.st = .idle
  busy : s.outputs.busy = false
  done : s.outputs.done = false
  txValid : s.outputs.txValid = false
  rxReady : s.outputs.rxReady = false
  rdStart : s.outputs.rdStart = false
  resStatus : s.outputs.resStatus = 7
  values : s.outputs.resF0 = 0 ∧ s.outputs.resF1 = 0 ∧ s.outputs.resF2 = 0
  sums : s.outputs.resCsumCalc = 0 ∧ s.outputs.resCsumRx = 0

/-- The registers hold their reset values (R46); the frame, whose reset value is unspecified, and the
environment's fields hold anything. The last part is the model's own count (log entry 9). -/
structure State.AfterReset (s : State) : Prop where
  st : s.st = .idle
  cmdIdx : s.cmdIdx = 0
  huntCnt : s.huntCnt = 0
  payCnt : s.payCnt = 0
  rdStartQ : s.rdStartQ = false
  resStatus : s.resStatus = 7
  values : s.resF0 = 0 ∧ s.resF1 = 0 ∧ s.resF2 = 0
  sums : s.resCsumCalc = 0 ∧ s.resCsumRx = 0
  noOutcome : s.outcomeCount = 0

/-- "every cycle reachable from reset" (R44): by steps, with any inputs, from the reset values. -/
inductive Reachable : State → Prop where
  | reset {s : State} (h : s.AfterReset) : Reachable s
  | step {s t : State} (h : Reachable s) (hs : Machine.step s = .next t) : Reachable t

/-- The list of R44. -/
structure State.Listed44 (s : State) : Prop where
  cmd : s.st = .cmd → s.cmdIdx.toNat ≤ 6
  hunt : s.st = .hunt → s.huntCnt.toNat ≤ 9
  payload : s.st = .payload → s.payCnt.toNat ≤ 9 ∧ s.frame[0] = 0x42 ∧ s.frame[1] = 0x4D
    ∧ ∀ k : Fin 12, 2 ≤ k.val → k.val ≤ 1 + s.payCnt.toNat → s.frameWritten[k] = true
  check : s.st = .check → s.payCnt.toNat = 10 ∧ s.frame[0] = 0x42 ∧ s.frame[1] = 0x4D
    ∧ ∀ k : Fin 12, s.frameWritten[k] = true
  legal : s.st ≠ .unused7
  firstPoll : s.busy = false → s.resStatus = 7 → s.outcomeCount = 0

/-- The result registers agree with the status (R181, R183, R218): NONE while a poll runs, an outcome in
DONE, never the reserved code, values only with SUCCESS, a ChecksumPair only from CHECK. -/
structure State.ResultsAgree (s : State) : Prop where
  running : s.st ≠ .idle → s.st ≠ .done → s.resStatus = 7
  recorded : s.st = .done → s.resStatus ≠ 7
  notReserved : s.resStatus ≠ 6
  values : s.resStatus ≠ 0 → s.resF0 = 0 ∧ s.resF1 = 0 ∧ s.resF2 = 0
  pairEqual : s.resStatus = 0 → s.resCsumCalc = s.resCsumRx
  pairUnequal : s.resStatus = 3 → s.resCsumCalc ≠ s.resCsumRx
  pairZero : s.resStatus ≠ 0 → s.resStatus ≠ 3 → s.resCsumCalc = 0 ∧ s.resCsumRx = 0

/-- The invariant of the block: R44's list, what makes it inductive (the counters' ranges of R24 to R26,
the first header byte in HDR1, which offsets are written), and the result registers. -/
structure State.Inv (s : State) : Prop where
  listed : s.Listed44
  results : s.ResultsAgree
  huntLegal : s.huntCnt.toNat ≤ 10
  payLegal : s.payCnt.toNat ≤ 10
  cmdDone : s.st = .hunt ∨ s.st = .hdr1 ∨ s.st = .payload ∨ s.st = .check → s.cmdIdx = 7
  hdr1 : s.st = .hdr1 → s.frame[0] = 0x42 ∧ s.frameWritten[0] = true
  headerWritten : s.st = .payload → s.frameWritten[0] = true ∧ s.frameWritten[1] = true
  readStart : s.rdStartQ = true → s.rxReady = true

/-- What passed on the streams (R117, R58): the frame bytes of this poll are the last bytes consumed, in
order, and the command bytes sent are the last bytes transferred. -/
structure State.StreamsAgree (s : State) : Prop where
  cmd : s.st = .cmd → ∃ before, s.txLog = before ++ cmdRom.take s.cmdIdx.toNat
  sent : s.st = .hunt ∨ s.st = .hdr1 ∨ s.st = .payload ∨ s.st = .check → ∃ before, s.txLog = before ++ cmdRom
  hdr1 : s.st = .hdr1 → ∃ before, s.rxLog = before ++ [s.frame[0]]
  payload : s.st = .payload → ∃ before, s.rxLog = before ++ s.frame.toList.take (2 + s.payCnt.toNat)
  check : s.st = .check → ∃ before, s.rxLog = before ++ s.frame.toList

/-- A run of `n` cycles (R13): each state is the step of the one before. -/
def IsRun (n : Nat) (q : Nat → State) : Prop := ∀ k, k < n → step (q k) = .next (q (k + 1))

/-- No cycle of the run is a reset cycle. -/
def NoReset (n : Nat) (q : Nat → State) : Prop := ∀ k, k < n → (q k).inputNow.rst = false

/-- "the transmit sink asserts `tx_ready` at least once every `N_tx` cycles" (R192) while a command byte is
offered, in every such span of the `n` cycles of the run. -/
def TxWithin (nTx n : Nat) (q : Nat → State) : Prop :=
  ∀ k, k + nTx ≤ n → (q k).outputs.txValid = true → ∃ j, j < nTx ∧ (q (k + j)).inputNow.txReady = true

/-- This cycle ends the open read operation: the table of R119, column "ends". -/
def State.endsRead (s : State) : Bool :=
  (s.st == .hunt && (s.inputNow.rxValid || s.inputNow.rdTimeout))
    || (s.st == .hdr1 && (s.inputNow.rxValid || s.inputNow.rdTimeout))
    || (s.st == .payload && (s.inputNow.rdTimeout || (s.inputNow.rxValid && s.payCnt == 9)))

/-- Every read operation lasts at most `tRead` cycles, its `rd_start` cycle and its ending cycle included
(R192), in the `n` cycles of the run: what the timer contract of R189 gives. -/
def ReadsWithin (tRead n : Nat) (q : Nat → State) : Prop :=
  ∀ k, k + tRead ≤ n → (q k).outputs.rdStart = true → ∃ j, j < tRead ∧ (q (k + j)).endsRead = true

/-- `n` steps, stopping at the first fault or refusal: what Host.Core.run does, on this machine. -/
def runFor : Nat → State → Host.Outcome State Fault Refusal
  | 0, s => .next s
  | n + 1, s =>
    match step s with
    | .next t => runFor n t
    | .fault r => .fault r
    | .refused r => .refused r

/-- Some cycles of waiting and the cycle that ends the wait. -/
structure Span where
  waits : List Inputs
  last  : Inputs
  deriving DecidableEq, Repr

/-- The cycles of a span, in order. -/
def Span.cycles (a : Span) : List Inputs := a.waits ++ [a.last]

/-- No cycle is a reset cycle, every waiting cycle meets `wait` and the last one meets `last`. -/
def Span.fits (wait last : Inputs → Bool) (a : Span) : Bool :=
  a.waits.all (fun i => !i.rst && wait i) && (!a.last.rst && last a.last)

/-- The bytes a span's last cycle presents: one or none. -/
def Span.bytes (a : Span) : List Byte := if a.last.rxValid then [a.last.rxData] else []

/-- A cycle of a read state with neither a byte nor a timeout (R108, R112, R115). -/
def quiet (i : Inputs) : Bool := !i.rxValid && !i.rdTimeout

/-- A hunt attempt: it ends with a presented byte, or with a timeout (R117). -/
def Span.isAttempt (a : Span) : Bool := a.fits quiet (fun i => i.rxValid || i.rdTimeout)

/-- The attempt ends with the byte `0x42` (R117). -/
def Span.findsHeader (a : Span) : Bool := a.last.rxValid && a.last.rxData == 0x42

/-- A wait for the second header byte that ends with the byte `0x4D` (R109). -/
def Span.isSecondHeader (a : Span) : Bool := a.fits quiet (fun i => i.rxValid && i.rxData == 0x4D)

/-- A wait for a payload byte that ends with a byte (R113); `timeout` says whether `rd_timeout` may come
with it. -/
def Span.isPayloadByte (timeout : Bool) (a : Span) : Bool :=
  a.fits quiet (fun i => i.rxValid && (timeout || !i.rdTimeout))

/-- A command byte: the sink stalls, then takes it (R103, R104). -/
def Span.isTransmit (a : Span) : Bool := a.fits (fun i => !i.txReady) (fun i => i.txReady)

/-- The cycles of spans that follow each other. -/
def spanCycles (as : List Span) : List Inputs := as.flatMap Span.cycles

/-- The bytes of spans that follow each other. -/
def spanBytes (as : List Span) : List Byte := as.flatMap Span.bytes

end Sys2Proof.Machine
end

