-- ==== Sys2Proof/Certificates/Slice0/Obligations.lean ====
section
/-! DEFINITION. The statements for the provers. Each docstring says which rule of spec/ it formalises. A record update in a statement names every field the rule writes: every other field of State, all result registers, counters, frame bytes and both streams among them, is as before (the frame of the rule). -/

open Sys2Proof Sys2Proof.Machine

/-! ### The 19 rules: when each is selected, and the whole state it leaves -/

/-- R100, R103, R108, R112, R115: each waiting rule is selected under its operands, and writes no register
but `rd_start_q`, which becomes 0 (R13). Nothing is consumed or sent; a NONE status stays NONE; in CMD the
byte offered stays the same (R103). -/
def Obligations.WaitingRulesKeepEverything : Prop :=
  (∀ (inp : Inputs), inp.start = false → decode (stepWord .idle inp)
      = .ok (.idleWait inp.rxData inp.rdTimeout inp.rxValid inp.txReady inp.linkOpen))
  ∧ (∀ (inp : Inputs), inp.txReady = false → decode (stepWord .cmd inp)
      = .ok (.cmdStall inp.rxData inp.rdTimeout inp.rxValid inp.linkOpen inp.start))
  ∧ (∀ (inp : Inputs), inp.rxValid = false → inp.rdTimeout = false →
      decode (stepWord .hunt inp) = .ok (.huntWait inp.rxData inp.txReady inp.linkOpen inp.start)
      ∧ decode (stepWord .hdr1 inp) = .ok (.hdr1Wait inp.rxData inp.txReady inp.linkOpen inp.start)
      ∧ decode (stepWord .payload inp) = .ok (.payWait inp.rxData inp.txReady inp.linkOpen inp.start))
  ∧ (∀ (s : State) (d : Byte) (t v r l b : Bool),
      exec (.idleWait d t v r l) s = .next { s with rdStartQ := false }
      ∧ exec (.cmdStall d t v l b) s = .next { s with rdStartQ := false }
      ∧ exec (.huntWait d r l b) s = .next { s with rdStartQ := false }
      ∧ exec (.hdr1Wait d r l b) s = .next { s with rdStartQ := false }
      ∧ exec (.payWait d r l b) s = .next { s with rdStartQ := false })
  ∧ (∀ (s : State), ({ s with rdStartQ := false } : State).outputs = { s.outputs with rdStart := false })

/-- R101: IDLE_NOLINK is selected in IDLE with `start = 1` and `link_open = 0`, records
TRANSPORT_UNAVAILABLE (5) with all 16-bit results 0, and shows `busy` and `done` in the next cycle. No
command byte is sent and no received byte is consumed. -/
def Obligations.NoLinkRecordsUnavailable : Prop :=
  (∀ (inp : Inputs), inp.start = true → inp.linkOpen = false → decode (stepWord .idle inp)
      = .ok (.idleNolink inp.rxData inp.rdTimeout inp.rxValid inp.txReady))
  ∧ ∀ (s : State) (d : Byte) (t v r : Bool), ∃ u : State,
      exec (.idleNolink d t v r) s = .next u
      ∧ u = { s with
          st := .done, rdStartQ := false, resStatus := 5, resF0 := 0, resF1 := 0, resF2 := 0,
          resCsumCalc := 0, resCsumRx := 0,
          frameWritten := Vector.replicate 12 false, outcomeCount := s.outcomeCount + 1 }
      ∧ u.outputs.busy = true ∧ u.outputs.done = true

/-- R102: IDLE_START is selected in IDLE with `start = 1` and `link_open = 1`, zeroes `cmd_idx`, clears the
previous outcome to NONE with all 16-bit results 0, and enters CMD: in the next cycle `busy` is 1, `done` is
0 and the transmitter offers `CMD_ROM[0] = 0x42`. -/
def Obligations.StartClearsResultsAndEntersCmd : Prop :=
  (∀ (inp : Inputs), inp.start = true → inp.linkOpen = true → decode (stepWord .idle inp)
      = .ok (.idleStart inp.rxData inp.rdTimeout inp.rxValid inp.txReady))
  ∧ ∀ (s : State) (d : Byte) (t v r : Bool), ∃ u : State,
      exec (.idleStart d t v r) s = .next u
      ∧ u = { s with
          st := .cmd, cmdIdx := 0, rdStartQ := false, resStatus := 7, resF0 := 0, resF1 := 0, resF2 := 0,
          resCsumCalc := 0, resCsumRx := 0, frameWritten := Vector.replicate 12 false }
      ∧ u.outputs.busy = true ∧ u.outputs.done = false ∧ u.outputs.txValid = true ∧ u.outputs.txData = 0x42

/-- R104: CMD_SEND is selected in CMD with `tx_ready = 1`. With `cmd_idx` 0 to 6 it transfers
`CMD_ROM[cmd_idx]`, the byte on `tx_data`, and counts it; the seventh transfer leaves `cmd_idx = 7`, zeroes
`hunt_cnt`, begins the first hunt attempt and enters HUNT. A NONE status stays NONE. -/
def Obligations.SendTransfersTheCommandByte : Prop :=
  (∀ (inp : Inputs), inp.txReady = true → decode (stepWord .cmd inp)
      = .ok (.cmdSend inp.rxData inp.rdTimeout inp.rxValid inp.linkOpen inp.start))
  ∧ ∀ (s : State) (d : Byte) (t v l b : Bool) (k : Fin 7), s.cmdIdx.toNat = k.val →
      (s.st = .cmd → s.outputs.txData = #v[0x42, 0x4D, 0xE3, 0x00, 0x00, 0x01, 0x72][k])
      ∧ (k.val < 6 → exec (.cmdSend d t v l b) s = .next { s with
          txLog := s.txLog ++ [#v[0x42, 0x4D, 0xE3, 0x00, 0x00, 0x01, 0x72][k]]
          cmdIdx := BitVec.ofNat 3 (k.val + 1), rdStartQ := false })
      ∧ (k.val = 6 → exec (.cmdSend d t v l b) s = .next { s with
          txLog := s.txLog ++ [0x72], cmdIdx := 7, huntCnt := 0, rdStartQ := true, st := .hunt })

/-- R105, R109: a matching header byte is consumed and stored at its frame offset, the next read operation
begins, and the next state is entered, whatever `rd_timeout` and the counters are; HDR1_MATCH zeroes
`pay_cnt`, and `hunt_cnt` is not changed. -/
def Obligations.HeaderBytesAreStored : Prop :=
  (∀ (inp : Inputs), inp.rxValid = true → inp.rxData = 0x42 → decode (stepWord .hunt inp)
      = .ok (.huntMatch inp.rdTimeout inp.txReady inp.linkOpen inp.start))
  ∧ (∀ (inp : Inputs), inp.rxValid = true → inp.rxData = 0x4D → decode (stepWord .hdr1 inp)
      = .ok (.hdr1Match inp.rdTimeout inp.txReady inp.linkOpen inp.start))
  ∧ ∀ (s : State) (t r l b : Bool),
      exec (.huntMatch t r l b) s = .next { s with
        rxLog := s.rxLog ++ [0x42], frame := s.frame.set 0 0x42, frameWritten := s.frameWritten.set 0 true
        rdStartQ := true, st := .hdr1 }
      ∧ exec (.hdr1Match t r l b) s = .next { s with
        rxLog := s.rxLog ++ [0x4D], frame := s.frame.set 1 0x4D, frameWritten := s.frameWritten.set 1 true
        payCnt := 0, rdStartQ := true, st := .payload }

/-- R106, R107: a byte other than `0x42`, or a timeout with no byte, uses one hunt attempt. With `hunt_cnt`
9 it was the tenth: `hunt_cnt` becomes 10 and HEADER_LOST (1) is recorded with 16-bit results 0. With
`hunt_cnt` below 9 it is counted and the next attempt begins. HUNT_DISCARD consumes the byte and does not
store it; HUNT_TIMEOUT consumes nothing. -/
def Obligations.FailedAttemptsAreCounted : Prop :=
  (∀ (inp : Inputs), inp.rxValid = true → inp.rxData ≠ 0x42 → decode (stepWord .hunt inp)
      = .ok (.huntDiscard inp.rxData inp.rdTimeout inp.txReady inp.linkOpen inp.start))
  ∧ (∀ (inp : Inputs), inp.rxValid = false → inp.rdTimeout = true → decode (stepWord .hunt inp)
      = .ok (.huntTimeout inp.rxData inp.txReady inp.linkOpen inp.start))
  ∧ ∀ (s : State) (d : Byte) (t r l b : Bool),
      (s.huntCnt.toNat = 9 →
        exec (.huntDiscard d t r l b) s = .next { s with
          rxLog := s.rxLog ++ [d], huntCnt := 10, st := .done, rdStartQ := false, resStatus := 1, resF0 := 0
          resF1 := 0, resF2 := 0, resCsumCalc := 0, resCsumRx := 0, outcomeCount := s.outcomeCount + 1 }
        ∧ exec (.huntTimeout d r l b) s = .next { s with
          huntCnt := 10, st := .done, rdStartQ := false, resStatus := 1, resF0 := 0
          resF1 := 0, resF2 := 0, resCsumCalc := 0, resCsumRx := 0, outcomeCount := s.outcomeCount + 1 })
      ∧ (s.huntCnt.toNat < 9 →
        exec (.huntDiscard d t r l b) s = .next { s with
          rxLog := s.rxLog ++ [d], huntCnt := BitVec.ofNat 4 (s.huntCnt.toNat + 1), rdStartQ := true }
        ∧ exec (.huntTimeout d r l b) s = .next { s with
          huntCnt := BitVec.ofNat 4 (s.huntCnt.toNat + 1), rdStartQ := true })

/-- R110, R111: the byte after `0x42` is another than `0x4D`, or does not come before the timeout: the poll
ends with SECOND_HEADER_MISMATCH (2) and 16-bit results 0. HDR1_MISMATCH consumes the byte, also when it is
`0x42`; HDR1_TIMEOUT consumes nothing. `done` is 1 in the next cycle. -/
def Obligations.SecondHeaderFailureEndsThePoll : Prop :=
  (∀ (inp : Inputs), inp.rxValid = true → inp.rxData ≠ 0x4D → decode (stepWord .hdr1 inp)
      = .ok (.hdr1Mismatch inp.rxData inp.rdTimeout inp.txReady inp.linkOpen inp.start))
  ∧ (∀ (inp : Inputs), inp.rxValid = false → inp.rdTimeout = true → decode (stepWord .hdr1 inp)
      = .ok (.hdr1Timeout inp.rxData inp.txReady inp.linkOpen inp.start))
  ∧ ∀ (s : State) (d : Byte) (t r l b : Bool), ∃ u w : State,
      exec (.hdr1Mismatch d t r l b) s = .next u
      ∧ u = { s with
          rxLog := s.rxLog ++ [d], st := .done, rdStartQ := false, resStatus := 2, resF0 := 0
          resF1 := 0, resF2 := 0, resCsumCalc := 0, resCsumRx := 0, outcomeCount := s.outcomeCount + 1 }
      ∧ exec (.hdr1Timeout d r l b) s = .next w
      ∧ w = { s with
          st := .done, rdStartQ := false, resStatus := 2, resF0 := 0
          resF1 := 0, resF2 := 0, resCsumCalc := 0, resCsumRx := 0, outcomeCount := s.outcomeCount + 1 }
      ∧ u.outputs.done = true ∧ w.outputs.done = true

/-- R113: PAY_BYTE stores the byte, whatever its value, at frame offset `2 + pay_cnt` and counts it. The
tenth (frame offset 11) leads to CHECK whatever `rd_timeout` is; an earlier one with a timeout in the same
cycle ends the poll with TRANSPORT_IO_ERROR (4) and 16-bit results 0. -/
def Obligations.PayloadByteIsStored : Prop :=
  (∀ (inp : Inputs), inp.rxValid = true → decode (stepWord .payload inp)
      = .ok (.payByte inp.rxData inp.rdTimeout inp.txReady inp.linkOpen inp.start))
  ∧ ∀ (s : State) (d : Byte) (t r l b : Bool) (k : Fin 12), k.val = 2 + s.payCnt.toNat →
      (k.val = 11 → exec (.payByte d t r l b) s = .next { s with
          rxLog := s.rxLog ++ [d], frame := s.frame.set k d, frameWritten := s.frameWritten.set k true
          payCnt := 10, rdStartQ := false, st := .check })
      ∧ (k.val < 11 → t = false → exec (.payByte d t r l b) s = .next { s with
          rxLog := s.rxLog ++ [d], frame := s.frame.set k d, frameWritten := s.frameWritten.set k true
          payCnt := BitVec.ofNat 4 (s.payCnt.toNat + 1), rdStartQ := false })
      ∧ (k.val < 11 → t = true → exec (.payByte d t r l b) s = .next { s with
          rxLog := s.rxLog ++ [d], frame := s.frame.set k d, frameWritten := s.frameWritten.set k true
          payCnt := BitVec.ofNat 4 (s.payCnt.toNat + 1), rdStartQ := false
          st := .done, resStatus := 4, resF0 := 0, resF1 := 0, resF2 := 0
          resCsumCalc := 0, resCsumRx := 0, outcomeCount := s.outcomeCount + 1 })

/-- R114: a timeout of the payload read with no byte ends the poll with TRANSPORT_IO_ERROR (4), whatever
`pay_cnt` is, which stays; 16-bit results 0; `done` is 1 in the next cycle. -/
def Obligations.PayloadTimeoutIsAnIoError : Prop :=
  (∀ (inp : Inputs), inp.rxValid = false → inp.rdTimeout = true → decode (stepWord .payload inp)
      = .ok (.payTimeout inp.rxData inp.txReady inp.linkOpen inp.start))
  ∧ ∀ (s : State) (d : Byte) (r l b : Bool), ∃ u : State,
      exec (.payTimeout d r l b) s = .next u
      ∧ u = { s with
          st := .done, rdStartQ := false, resStatus := 4, resF0 := 0, resF1 := 0, resF2 := 0
          resCsumCalc := 0, resCsumRx := 0, outcomeCount := s.outcomeCount + 1 }
      ∧ u.outputs.done = true

/-- R144 (with R140, R141, R142, R160, R161): in CHECK, whatever the inputs, CHECK_EVAL compares the sum of
the frame bytes at offsets 0 to 9, mod 2^16, with the big-endian value at offsets 10 and 11; equal: SUCCESS
(0) with the three big-endian values at offsets 4 to 9; unequal: CHECKSUM_ERROR (3) with values 0; both sums
are recorded either way, no byte is consumed, and `done` is 1 in the next cycle. -/
def Obligations.CheckValidatesAndDecodes : Prop :=
  (∀ (inp : Inputs), decode (stepWord .check inp)
      = .ok (.checkEval inp.rxData inp.rdTimeout inp.rxValid inp.txReady inp.linkOpen inp.start))
  ∧ ∀ (s : State) (d : Byte) (t v r l b : Bool) (sum rx : Nat),
      sum = (s.frame[0].toNat + s.frame[1].toNat + s.frame[2].toNat + s.frame[3].toNat + s.frame[4].toNat
        + s.frame[5].toNat + s.frame[6].toNat + s.frame[7].toNat + s.frame[8].toNat + s.frame[9].toNat) % 65536 →
      rx = s.frame[10].toNat * 256 + s.frame[11].toNat →
      ∃ u : State, exec (.checkEval d t v r l b) s = .next u ∧ u.outputs.done = true
        ∧ (sum = rx → u = { s with
            rdStartQ := false, st := .done, resStatus := 0
            resF0 := BitVec.ofNat 16 (s.frame[4].toNat * 256 + s.frame[5].toNat)
            resF1 := BitVec.ofNat 16 (s.frame[6].toNat * 256 + s.frame[7].toNat)
            resF2 := BitVec.ofNat 16 (s.frame[8].toNat * 256 + s.frame[9].toNat)
            resCsumCalc := BitVec.ofNat 16 sum, resCsumRx := BitVec.ofNat 16 rx
            outcomeCount := s.outcomeCount + 1 })
        ∧ (sum ≠ rx → u = { s with
            rdStartQ := false, st := .done, resStatus := 3, resF0 := 0, resF1 := 0, resF2 := 0
            resCsumCalc := BitVec.ofNat 16 sum, resCsumRx := BitVec.ofNat 16 rx
            outcomeCount := s.outcomeCount + 1 })

/-- R116, R118: DONE_RET in DONE and ILLEGAL_STATE in the unused code 7, whatever the inputs, return to IDLE
and leave the result registers and everything else; `busy` and `done` are 0 in the next cycle. In the cycle
itself `busy` is 1 in both states, and `done` is 1 in DONE only. -/
def Obligations.ReturnToIdleKeepsTheResults : Prop :=
  (∀ (inp : Inputs),
      decode (stepWord .done inp)
        = .ok (.doneRet inp.rxData inp.rdTimeout inp.rxValid inp.txReady inp.linkOpen inp.start)
      ∧ decode (stepWord .unused7 inp)
        = .ok (.illegalState inp.rxData inp.rdTimeout inp.rxValid inp.txReady inp.linkOpen inp.start))
  ∧ (∀ (s : State), (s.st = .done → s.outputs.busy = true ∧ s.outputs.done = true)
      ∧ (s.st = .unused7 → s.outputs.busy = true ∧ s.outputs.done = false))
  ∧ ∀ (s : State) (d : Byte) (t v r l b : Bool), ∃ u : State,
      exec (.doneRet d t v r l b) s = .next u ∧ exec (.illegalState d t v r l b) s = .next u
      ∧ u = { s with rdStartQ := false, st := .idle }
      ∧ u.outputs.busy = false ∧ u.outputs.done = false

/-- The model's choices in states no run reaches (R44): with `cmd_idx = 7`, which names no entry of
`CMD_ROM`, CMD_SEND still transfers one byte, the free value of log entry 6, and the 3-bit counter wraps
(log entry 7); with `pay_cnt` above 9 PAY_BYTE stops, since the frame has no such offset (log entry 8);
with `hunt_cnt` above 9 an attempt is only counted, the 4-bit counter wrapping (log entry 7). -/
def Obligations.UnreachableCountersBehaveAsLogged : Prop :=
  ∀ (s : State) (d : Byte) (t v r l b : Bool),
    (s.cmdIdx = 7 → ∃ x : Byte, exec (.cmdSend d t v l b) s = .next { s with
        txLog := s.txLog ++ [x], cmdIdx := 0, rdStartQ := false })
    ∧ (10 ≤ s.payCnt.toNat → exec (.payByte d t r l b) s = .fault (.frameOffset (2 + s.payCnt.toNat)))
    ∧ (10 ≤ s.huntCnt.toNat →
        exec (.huntTimeout d r l b) s = .next { s with
          huntCnt := BitVec.ofNat 4 (s.huntCnt.toNat + 1), rdStartQ := true }
        ∧ exec (.huntDiscard d t r l b) s = .next { s with
          rxLog := s.rxLog ++ [d], huntCnt := BitVec.ofNat 4 (s.huntCnt.toNat + 1), rdStartQ := true })

/-! ### The cycle, reset, outputs -/

/-- R13: in a cycle with `rst = 0`, the step is the effect of the decoded rule and the end of the cycle: the
environment's next inputs come up and the cycle is counted. A fault of the rule is the fault of the step, and
no rule is refused. -/
def Obligations.StepRunsTheDecodedRule : Prop :=
  ∀ (s : State) (i : Instr), s.inputNow.rst = false → decode (stepWord s.st s.inputNow) = .ok i →
    (∀ t : State, exec i s = .next t →
      step s = .next { t with stimulus := t.stimulus.tail, cycle := t.cycle + 1 })
    ∧ (∀ r : Fault, exec i s = .fault r → step s = .fault r)
    ∧ ∀ r : Refusal, exec i s ≠ .refused r

/-- R210, R211: in a cycle with `rst = 1`, whatever the other inputs and the state, the registers get their
reset values, and a transfer the handshakes show in that cycle still happens on its stream. The frame is
left unspecified: nothing is said about it. The model's own marks and count start again (log entry 9). -/
def Obligations.ResetLoadsTheResetValues : Prop :=
  ∀ (s : State), s.inputNow.rst = true → ∃ t : State, step s = .next t
    ∧ t.st = .idle ∧ t.cmdIdx = 0 ∧ t.huntCnt = 0 ∧ t.payCnt = 0 ∧ t.rdStartQ = false
    ∧ t.resStatus = 7 ∧ t.resF0 = 0 ∧ t.resF1 = 0 ∧ t.resF2 = 0 ∧ t.resCsumCalc = 0 ∧ t.resCsumRx = 0
    ∧ t.rxLog = s.rxLog ++ (if s.inputNow.rxValid && s.outputs.rxReady then [s.inputNow.rxData] else [])
    ∧ t.txLog = s.txLog ++ (if s.outputs.txValid && s.inputNow.txReady then [s.outputs.txData] else [])
    ∧ t.frameWritten = Vector.replicate 12 false ∧ t.outcomeCount = 0
    ∧ t.stimulus = s.stimulus.tail ∧ t.cycle = s.cycle + 1

/-- R213: in the cycle after reset ends the block is at its clean entry. -/
def Obligations.ResetGivesACleanEntry : Prop :=
  ∀ (s t : State), s.inputNow.rst = true → step s = .next t →
    t.st = .idle ∧ t.outputs.busy = false ∧ t.outputs.done = false ∧ t.outputs.txValid = false
    ∧ t.outputs.rxReady = false ∧ t.outputs.rdStart = false ∧ t.outputs.resStatus = 7
    ∧ t.outputs.resF0 = 0 ∧ t.outputs.resF1 = 0 ∧ t.outputs.resF2 = 0
    ∧ t.outputs.resCsumCalc = 0 ∧ t.outputs.resCsumRx = 0

/-- R46: the registers of the reset state, and the outputs after reset. Of the frame, whose reset value is
unspecified, nothing is said. -/
def Obligations.ResetStateIsTheTable : Prop :=
  State.reset.st = .idle ∧ State.reset.cmdIdx = 0 ∧ State.reset.huntCnt = 0 ∧ State.reset.payCnt = 0
  ∧ State.reset.rdStartQ = false ∧ State.reset.resStatus = 7
  ∧ State.reset.resF0 = 0 ∧ State.reset.resF1 = 0 ∧ State.reset.resF2 = 0
  ∧ State.reset.resCsumCalc = 0 ∧ State.reset.resCsumRx = 0
  ∧ State.reset.outputs = {
      busy := false, done := false, txValid := false, txData := 0x00, rxReady := false, rdStart := false
      resStatus := 7, resF0 := 0, resF1 := 0, resF2 := 0, resCsumCalc := 0, resCsumRx := 0 }

/-- R33, R34, R35, and the equation of R36: the handshake and status outputs, by state; `CMD_ROM` is
`42 4D E3 00 00 01 72`. -/
def Obligations.OutputsFollowTheState : Prop :=
  ∀ (s : State),
    (s.outputs.busy = true ↔ s.st ≠ .idle)
    ∧ (s.outputs.done = true ↔ s.st = .done)
    ∧ (s.outputs.txValid = true ↔ s.st = .cmd)
    ∧ (∀ k : Fin 7, s.st = .cmd → s.cmdIdx.toNat = k.val →
        s.outputs.txData = #v[0x42, 0x4D, 0xE3, 0x00, 0x00, 0x01, 0x72][k])
    ∧ (s.st ≠ .cmd → s.outputs.txData = 0x00)
    ∧ (s.outputs.rxReady = true ↔ s.st = .hunt ∨ s.st = .hdr1 ∨ s.st = .payload)
    ∧ s.outputs.rdStart = s.rdStartQ

/-- R37: the result ports show the result registers, and these change only at the end of a cycle whose
rule writes them: a reset cycle, a poll's start (IDLE with `start = 1`), or the recording of an outcome,
which enters DONE. -/
def Obligations.ResultPortsChangeOnlyByTheirRules : Prop :=
  ∀ (s t : State), step s = .next t →
    (s.outputs.resStatus = s.resStatus ∧ s.outputs.resF0 = s.resF0 ∧ s.outputs.resF1 = s.resF1
      ∧ s.outputs.resF2 = s.resF2 ∧ s.outputs.resCsumCalc = s.resCsumCalc ∧ s.outputs.resCsumRx = s.resCsumRx)
    ∧ (s.inputNow.rst = true ∨ (s.st = .idle ∧ s.inputNow.start = true) ∨ t.st = .done
      ∨ (t.resStatus = s.resStatus ∧ t.resF0 = s.resF0 ∧ t.resF1 = s.resF1 ∧ t.resF2 = s.resF2
        ∧ t.resCsumCalc = s.resCsumCalc ∧ t.resCsumRx = s.resCsumRx))

/-- R22: in every cycle, reset cycles too, a byte leaves the receive stream exactly when `rx_valid` and
`rx_ready` are 1, and it is `rx_data`; a byte is transferred exactly when `tx_valid` and `tx_ready` are 1,
and it is `tx_data`. Never both in one cycle (R222). -/
def Obligations.HandshakesMoveTheStreams : Prop :=
  ∀ (s t : State), step s = .next t →
    t.rxLog = s.rxLog ++ (if s.inputNow.rxValid && s.outputs.rxReady then [s.inputNow.rxData] else [])
    ∧ t.txLog = s.txLog ++ (if s.outputs.txValid && s.inputNow.txReady then [s.outputs.txData] else [])
    ∧ (t.rxLog = s.rxLog ∨ t.txLog = s.txLog)

/-- R28, R119: `rd_start_q` is 1 after exactly the rules that begin a read operation (the last CMD_SEND, a
hunt attempt that fails and is not the last, HUNT_MATCH, HDR1_MATCH) and 0 after every other cycle; its
reset value is 0. -/
def Obligations.ReadStartMarksANewReadOperation : Prop :=
  State.reset.rdStartQ = false
  ∧ ∀ (s t : State), step s = .next t →
    (t.rdStartQ = true ↔ s.inputNow.rst = false ∧
      ((s.st = .cmd ∧ s.inputNow.txReady = true ∧ s.cmdIdx = 6)
        ∨ (s.st = .hunt ∧ s.inputNow.rxValid = true ∧ s.inputNow.rxData = 0x42)
        ∨ (s.st = .hunt ∧ (s.inputNow.rxValid = true ∨ s.inputNow.rdTimeout = true) ∧ s.huntCnt ≠ 9)
        ∨ (s.st = .hdr1 ∧ s.inputNow.rxValid = true ∧ s.inputNow.rxData = 0x4D)))

/-- R180, R182, R185: an outcome is recorded in a cycle exactly when the cycle enters DONE, one at a time;
DONE lasts one cycle, after which the block is in IDLE; and a poll leaves IDLE only by IDLE_START, to CMD,
or IDLE_NOLINK, to DONE. So a poll that is not reset and does not hang records exactly one outcome. -/
def Obligations.OneOutcomeOnEnteringDone : Prop :=
  ∀ (s t : State), step s = .next t → s.inputNow.rst = false →
    (t.st = .done → s.st ≠ .done ∧ t.outcomeCount = s.outcomeCount + 1)
    ∧ (t.st ≠ .done → t.outcomeCount = s.outcomeCount)
    ∧ (s.st = .done → t.st = .idle)
    ∧ (s.st ≠ .done → s.st ≠ .unused7 → t.st = .idle → s.st = .idle)
    ∧ (s.st = .idle → s.inputNow.start = true → t.st = if s.inputNow.linkOpen then .cmd else .done)

/-- R75, R214, R194: inputs a rule ignores have no effect. Two states that differ only in this cycle's
inputs step alike when the inputs agree on what the state looks at: IDLE on `start`, and on `link_open`
with it; CMD on `tx_ready`; HUNT and HDR1 on `rx_valid`, on `rx_data` with it, on `rd_timeout` without it;
PAYLOAD on `rx_valid`, `rd_timeout`, and `rx_data` with `rx_valid`; the other states on nothing. -/
def Obligations.IgnoredInputsHaveNoEffect : Prop :=
  ∀ (s : State) (i j : Inputs) (rest : List Inputs), i.rst = false → j.rst = false →
    (s.st = .idle → i.start = j.start ∧ (i.start = true → i.linkOpen = j.linkOpen)) →
    (s.st = .cmd → i.txReady = j.txReady) →
    (s.st = .hunt ∨ s.st = .hdr1 → i.rxValid = j.rxValid ∧ (i.rxValid = true → i.rxData = j.rxData)
      ∧ (i.rxValid = false → i.rdTimeout = j.rdTimeout)) →
    (s.st = .payload → i.rxValid = j.rxValid ∧ i.rdTimeout = j.rdTimeout
      ∧ (i.rxValid = true → i.rxData = j.rxData)) →
    step { s with stimulus := i :: rest } = step { s with stimulus := j :: rest }

/-! ### Encoding -/

/-- R73: the bits of the step word of a cycle. -/
def Obligations.StepWordLayout : Prop :=
  ∀ (st : SeqState) (inp : Inputs) (w : StepWord), w = stepWord st inp →
    w.extractLsb' 0 3 = st.code ∧ w.getLsbD 3 = inp.start ∧ w.getLsbD 4 = inp.linkOpen
    ∧ w.getLsbD 5 = inp.txReady ∧ w.getLsbD 6 = inp.rxValid ∧ w.getLsbD 7 = inp.rdTimeout
    ∧ w.extractLsb' 8 8 = inp.rxData

/-- R74, R73: words written out bit by bit from the patterns decode to their rows' instructions, one of
each family of states. -/
def Obligations.WrittenOutWordsDecode : Prop :=
  decode 0b0100001001010000#16 = .ok (.idleWait 0x42 false true false true)
  ∧ decode 0b0000000000001000#16 = .ok (.idleNolink 0x00 false false false)
  ∧ decode 0b0000000000111000#16 = .ok (.idleStart 0x00 false false true)
  ∧ decode 0b0000000000011001#16 = .ok (.cmdStall 0x00 false false true true)
  ∧ decode 0b0100001001110001#16 = .ok (.cmdSend 0x42 false true true false)
  ∧ decode 0b0100001011010010#16 = .ok (.huntMatch true false true false)
  ∧ decode 0b0100110101010010#16 = .ok (.huntDiscard 0x4D false false true false)
  ∧ decode 0b0100110101010011#16 = .ok (.hdr1Match false false true false)
  ∧ decode 0b0100001001010011#16 = .ok (.hdr1Mismatch 0x42 false false true false)
  ∧ decode 0b1111010011010100#16 = .ok (.payByte 0xF4 true false true false)
  ∧ decode 0b0100001001011101#16 = .ok (.checkEval 0x42 false true false true true)
  ∧ decode 0b0000000000011110#16 = .ok (.doneRet 0x00 false false false true true)
  ∧ decode 0b0000000000010111#16 = .ok (.illegalState 0x00 false false false true false)

/-- R74: the 19 rows with their masks and matches; the decoder takes the first row, in row order, that
matches; every word matches a row; rows 7 and 11 match every word that rows 6 and 10 match; every other
pair of rows is disjoint. -/
def Obligations.TableIsTotalAndFirstMatchDecodes : Prop :=
  table.map (fun r => (r.mnemonic, r.mask, r.matchBits)) =
    [("IDLE_WAIT", 0x000F, 0x0000), ("IDLE_NOLINK", 0x001F, 0x0008), ("IDLE_START", 0x001F, 0x0018),
     ("CMD_STALL", 0x0027, 0x0001), ("CMD_SEND", 0x0027, 0x0021),
     ("HUNT_MATCH", 0xFF47, 0x4242), ("HUNT_DISCARD", 0x0047, 0x0042), ("HUNT_TIMEOUT", 0x00C7, 0x0082),
     ("HUNT_WAIT", 0x00C7, 0x0002), ("HDR1_MATCH", 0xFF47, 0x4D43), ("HDR1_MISMATCH", 0x0047, 0x0043),
     ("HDR1_TIMEOUT", 0x00C7, 0x0083), ("HDR1_WAIT", 0x00C7, 0x0003), ("PAY_BYTE", 0x0047, 0x0044),
     ("PAY_TIMEOUT", 0x00C7, 0x0084), ("PAY_WAIT", 0x00C7, 0x0004), ("CHECK_EVAL", 0x0007, 0x0005),
     ("DONE_RET", 0x0007, 0x0006), ("ILLEGAL_STATE", 0x0007, 0x0007)]
  ∧ ∀ (w : StepWord),
    (∃ (n : Fin 19) (row : Row), table[n.val]? = some row ∧ w &&& row.mask = row.matchBits
      ∧ decode w = .ok (row.build w)
      ∧ ∀ (m : Nat) (r : Row), m < n.val → table[m]? = some r → ¬ w &&& r.mask = r.matchBits)
    ∧ (w &&& 0xFF47 = 0x4242 → w &&& 0x0047 = 0x0042)
    ∧ (w &&& 0xFF47 = 0x4D43 → w &&& 0x0047 = 0x0043)
    ∧ ∀ (m n : Nat) (r q : Row), m < n → table[m]? = some r → table[n]? = some q →
        w &&& r.mask = r.matchBits → w &&& q.mask = q.matchBits → (m, n) = (5, 6) ∨ (m, n) = (9, 10)

/-- Every well-formed instruction, every operand at every value the encoding admits: decoding its encoding
gives it back (R73, R74). -/
def Obligations.DecodeOfEncodeIsTheInstruction : Prop :=
  ∀ (i : Instr), i.wellFormed = true → decode (encode i) = .ok i

/-- Every step word decodes to one well-formed instruction, and encoding that gives the word back: no bit
of a word is dropped (R73, R74). -/
def Obligations.EncodeOfDecodeIsTheWord : Prop :=
  ∀ (w : StepWord), ∃ i : Instr, decode w = .ok i ∧ i.wellFormed = true ∧ encode i = w

/-! ### Invariants -/

/-- Every step keeps the invariant: R44's list, the counters' ranges, the results' agreement with the
status. The step's inputs are any inputs. -/
def Obligations.EveryStepKeepsTheInvariant : Prop :=
  ∀ (s t : State), s.Inv → step s = .next t → t.Inv

/-- The reset state meets the invariant, the streams' invariant, and is a start of `Reachable`. -/
def Obligations.ResetMeetsTheInvariants : Prop :=
  State.reset.Inv ∧ State.reset.StreamsAgree ∧ State.reset.AfterReset

/-- R44: the list, clause by clause, in every state reachable from reset with any inputs. "written in this
poll" is the model's own mark `frameWritten`, "before the first poll ends" its own count `outcomeCount`
(log entry 9). -/
def Obligations.ReachableStatesMeetTheList : Prop :=
  ∀ (s : State), Reachable s →
    (s.st = .cmd → s.cmdIdx.toNat ≤ 6)
    ∧ (s.st = .hunt → s.huntCnt.toNat ≤ 9)
    ∧ (s.st = .payload → s.payCnt.toNat ≤ 9 ∧ s.frame[0] = 0x42 ∧ s.frame[1] = 0x4D
        ∧ ∀ k : Fin 12, 2 ≤ k.val → k.val ≤ 1 + s.payCnt.toNat → s.frameWritten[k] = true)
    ∧ (s.st = .check → s.payCnt.toNat = 10 ∧ s.frame[0] = 0x42 ∧ s.frame[1] = 0x4D
        ∧ ∀ k : Fin 12, s.frameWritten[k] = true)
    ∧ s.st ≠ .unused7
    ∧ (s.outputs.busy = false → s.resStatus = 7 → s.outcomeCount = 0)

/-- R218, R30, R31, R181, R183: in every state reachable from reset, while a poll runs (`busy = 1`, before
`done`) the status is NONE and all 16-bit results read 0; the reserved code 6 never stands; with a status
other than SUCCESS the three values read 0; the sums are equal on SUCCESS, unequal on CHECKSUM_ERROR, and 0
with every other status. -/
def Obligations.ResultsReadWithTheirStatus : Prop :=
  ∀ (s : State), Reachable s →
    (s.outputs.busy = true → s.outputs.done = false → s.outputs.resStatus = 7)
    ∧ (s.outputs.done = true → s.outputs.resStatus ≠ 7)
    ∧ s.outputs.resStatus ≠ 6
    ∧ (s.outputs.resStatus ≠ 0 → s.outputs.resF0 = 0 ∧ s.outputs.resF1 = 0 ∧ s.outputs.resF2 = 0)
    ∧ (s.outputs.resStatus = 0 → s.outputs.resCsumCalc = s.outputs.resCsumRx)
    ∧ (s.outputs.resStatus = 3 → s.outputs.resCsumCalc ≠ s.outputs.resCsumRx)
    ∧ (s.outputs.resStatus ≠ 0 → s.outputs.resStatus ≠ 3 →
        s.outputs.resCsumCalc = 0 ∧ s.outputs.resCsumRx = 0)

/-- A run from reset never stops: every reachable state has a next state, whatever the inputs (R44, R74,
R193: a poll that hangs is an infinite run). -/
def Obligations.ReachableStatesAlwaysStep : Prop :=
  ∀ (s : State), Reachable s → ∃ t : State, step s = .next t

/-- Every step keeps the agreement of the block with its streams (R58, R71, R117): in CMD the last bytes
transferred are the first `cmd_idx` of `CMD_ROM`, in the states after it they are all of `CMD_ROM`, and the
frame bytes stored in this poll are the last bytes consumed, in order. -/
def Obligations.EveryStepKeepsTheStreams : Prop :=
  ∀ (s t : State), s.Inv → s.StreamsAgree → step s = .next t → t.StreamsAgree

/-! ### Checksum and fields -/

/-- R143: ten bytes sum to at most `0x09F6`, so every accumulator of 12 bits or more gives the same sum, its
top four bits 0; with the header bytes the sum lies in `0x008F .. 0x0887`, and a frame with `f[10] > 0x08`
or a transmitted checksum below `0x008F` never passes. -/
def Obligations.ChecksumRange : Prop :=
  ∀ (f : Frame),
    (csum16 f).toNat ≤ 0x09F6
    ∧ (csum16 f).extractLsb' 12 4 = 0
    ∧ (∀ n : Nat, 12 ≤ n → (csum16 f).toNat = (f[0].toNat + f[1].toNat + f[2].toNat + f[3].toNat + f[4].toNat
        + f[5].toNat + f[6].toNat + f[7].toNat + f[8].toNat + f[9].toNat) % 2 ^ n)
    ∧ (f[0] = 0x42 → f[1] = 0x4D →
        0x008F ≤ (csum16 f).toNat ∧ (csum16 f).toNat ≤ 0x0887
        ∧ (0x08 < f[10].toNat ∨ (be16 f[10] f[11]).toNat < 0x008F → csok f = false))

/-- R145: changing any one byte at offsets 2 to 11 of a frame that passes makes it fail; changes of two
bytes whose effects on the sum cancel, and any reordering of the bytes at offsets 0 to 9, leave the sum as
it was. -/
def Obligations.SingleByteChangesAreDetected : Prop :=
  (∀ (f : Frame) (k : Fin 12) (b : Byte), csok f = true → 2 ≤ k.val → b ≠ f[k] → csok (f.set k b) = false)
  ∧ (∀ (f : Frame) (j k : Fin 12) (b c : Byte), j ≠ k → 2 ≤ j.val → j.val ≤ 9 → 2 ≤ k.val → k.val ≤ 9 →
      b.toNat + c.toNat = f[j].toNat + f[k].toNat → csum16 ((f.set j b).set k c) = csum16 f)
  ∧ (∀ (f g : Frame), (g.toList.take 10).Perm (f.toList.take 10) → csum16 g = csum16 f)

/-- R164: for every three values and every two reserved bytes, the frame `FRAMEX b2 b3 a b c cs`, with `cs`
the sum of its offsets 0 to 9 mod 65536, passes CHECK_EVAL and gives back the three values. -/
def Obligations.FrameRoundTrip : Prop :=
  ∀ (s : State) (b2 b3 : Byte) (a b c cs : Value) (d : Byte) (t v r l x : Bool),
    cs = csum16 (framexBytes b2 b3 a b c cs) → s.frame = framexBytes b2 b3 a b c cs →
    ∃ u : State, exec (.checkEval d t v r l x) s = .next u ∧ u.resStatus = 0
      ∧ u.resF0 = a ∧ u.resF1 = b ∧ u.resF2 = c ∧ u.resCsumCalc = cs ∧ u.resCsumRx = cs

/-- R165: EXTRACT3 is a bijection, and two frames that differ at offsets 4 to 9 and both pass decode to
different triples. -/
def Obligations.ExtractionIsABijection : Prop :=
  Function.Bijective extract3
  ∧ ∀ (f g : Frame), csok f = true → csok g = true → (∃ k : Fin 12, 4 ≤ k.val ∧ k.val ≤ 9 ∧ f[k] ≠ g[k]) →
      extract3 (window f) ≠ extract3 (window g)

/-- R81, R82, R38, R39, R161: the stand-alone units on packed buses compute what the block's rules compute
on the frame buffer, and with those packings the window and the three values are plain slices of
`cv_frame`. -/
def Obligations.StandAloneUnitsAgree : Prop :=
  ∀ (f : Frame),
    csvUnit (packFrame f) = (csum16 f, csrx f, csok f)
    ∧ fxUnit (packWindow (window f)) = extract3 (window f)
    ∧ (∀ k : Fin 12, (packFrame f).extractLsb' (88 - 8 * k.val) 8 = f[k])
    ∧ packWindow (window f) = (packFrame f).extractLsb' 16 48
    ∧ (extract3 (window f)).1 = (packFrame f).extractLsb' 48 16
    ∧ (extract3 (window f)).2.1 = (packFrame f).extractLsb' 32 16
    ∧ (extract3 (window f)).2.2 = (packFrame f).extractLsb' 16 16

/-! ### The stimulus notation -/

/-- R80, R81: the cycles of each line and their encodings, with the link open and with it closed (bit 4
cleared), and FRAME as the FRAMEX whose checksum makes the frame valid. -/
def Obligations.StimulusLinesEncodeAsTabled : Prop :=
  (∀ n : Nat, (expand [.idle n]).map cycleEncoding = List.replicate n 0x0010)
  ∧ (expand [.start]).map cycleEncoding = [0x0018]
  ∧ (expand [.txack]).map cycleEncoding = [0x0030]
  ∧ (expand [.cmdack]).map cycleEncoding = [0x0030, 0x0030, 0x0030, 0x0030, 0x0030, 0x0030, 0x0030]
  ∧ (∀ b : Byte, (expand [.rx b]).map cycleEncoding = [BitVec.ofNat 16 (b.toNat * 256 + 0x0050)])
  ∧ (∀ bs : List Byte, expand [.rxs bs] = expand (bs.map Line.rx))
  ∧ (expand [.timeout]).map cycleEncoding = [0x0090]
  ∧ (∀ b : Byte, (expand [.rxTo b]).map cycleEncoding = [BitVec.ofNat 16 (b.toNat * 256 + 0x00D0)])
  ∧ (expand [.reset]).map (fun i => (i.rst, cycleEncoding i)) = [(true, 0x0010)]
  ∧ (∀ b : Byte, (expand [.linkdown, .start, .rx b, .linkup, .rx b]).map cycleEncoding
      = [0x0008, BitVec.ofNat 16 (b.toNat * 256 + 0x0040), BitVec.ofNat 16 (b.toNat * 256 + 0x0050)])
  ∧ (∀ (b2 b3 : Byte) (a b c cs : Value),
      expand [.framex b2 b3 a b c cs] = expand [.rxs (framexBytes b2 b3 a b c cs).toList])
  ∧ (∀ (a b c : Value), expand [.frame a b c] = expand [.framex 0 0 a b c (frameChecksum a b c)]
      ∧ csok (framexBytes 0 0 a b c (frameChecksum a b c)) = true)

/-! ### Polls -/

/-- R104, R103, R71: from CMD with `cmd_idx = 0`, seven takings by the sink, each after any number of stalled
cycles, transfer `42 4D E3 00 00 01 72` in order and nothing else; then the block is in HUNT with
`cmd_idx = 7`, `hunt_cnt = 0` and the first attempt's `rd_start`. No received byte is consumed. -/
def Obligations.CommandIsSentWhole : Prop :=
  ∀ (s : State) (sends : List Span) (rest : List Inputs), s.st = .cmd → s.cmdIdx = 0 →
    sends.length = 7 → (∀ a ∈ sends, a.isTransmit = true) → s.stimulus = spanCycles sends ++ rest →
    runFor (spanCycles sends).length s = .next { s with
      st := .hunt, cmdIdx := 7, huntCnt := 0, rdStartQ := true
      txLog := s.txLog ++ [0x42, 0x4D, 0xE3, 0x00, 0x00, 0x01, 0x72]
      stimulus := rest, cycle := s.cycle + (spanCycles sends).length }

/-- R117, first part: if none of the first ten hunt attempts ends with the byte `0x42`, the poll ends with
HEADER_LOST at attempt 10, having consumed exactly the bytes of those attempts. -/
def Obligations.TenFailedAttemptsLoseTheHeader : Prop :=
  ∀ (s : State) (tries : List Span) (rest : List Inputs), s.st = .hunt → s.huntCnt = 0 →
    tries.length = 10 → (∀ a ∈ tries, a.isAttempt = true ∧ a.findsHeader = false) →
    s.stimulus = spanCycles tries ++ rest →
    runFor (spanCycles tries).length s = .next { s with
      st := .done, huntCnt := 10, rdStartQ := false, resStatus := 1, resF0 := 0, resF1 := 0, resF2 := 0
      resCsumCalc := 0, resCsumRx := 0, outcomeCount := s.outcomeCount + 1
      rxLog := s.rxLog ++ spanBytes tries
      stimulus := rest, cycle := s.cycle + (spanCycles tries).length }

/-- R117, second part: if attempt `i`, 1 to 10, is the first that ends with `0x42`, the block is in HDR1
with `hunt_cnt = i - 1` and `0x42` stored; the next read decides: `0x4D` leads to PAYLOAD, any other byte or
a timeout ends the poll with SECOND_HEADER_MISMATCH, with exactly the bytes of the attempts and of that read
consumed. -/
def Obligations.FirstHeaderByteIsFoundWithinTheBudget : Prop :=
  ∀ (s : State) (misses : List Span) (found second : Span) (rest : List Inputs), s.st = .hunt → s.huntCnt = 0 →
    misses.length ≤ 9 → (∀ a ∈ misses, a.isAttempt = true ∧ a.findsHeader = false) →
    found.isAttempt = true → found.findsHeader = true → second.isAttempt = true →
    s.stimulus = spanCycles misses ++ found.cycles ++ second.cycles ++ rest →
    ∃ u : State, runFor ((spanCycles misses).length + found.cycles.length + second.cycles.length) s = .next u
      ∧ u.huntCnt.toNat = misses.length ∧ u.frame[0] = 0x42 ∧ u.stimulus = rest
      ∧ u.rxLog = s.rxLog ++ spanBytes misses ++ [0x42] ++ second.bytes
      ∧ (second.last.rxValid = true ∧ second.last.rxData = 0x4D →
          u.st = .payload ∧ u.payCnt = 0 ∧ u.frame[1] = 0x4D ∧ u.rdStartQ = true ∧ u.resStatus = s.resStatus)
      ∧ (¬ (second.last.rxValid = true ∧ second.last.rxData = 0x4D) → u.st = .done ∧ u.resStatus = 2)

/-- R117, third part: from PAYLOAD with no byte stored yet, ten bytes, each after any number of waiting
cycles and only the tenth possibly with a timeout, lead to CHECK with the frame's offsets 2 to 11 the ten
bytes in arrival order and offsets 0 and 1 as they were; exactly those ten bytes are consumed. -/
def Obligations.TenPayloadBytesReachCheck : Prop :=
  ∀ (s : State) (nine : List Span) (tenth : Span) (rest : List Inputs), s.st = .payload → s.payCnt = 0 →
    nine.length = 9 → (∀ a ∈ nine, a.isPayloadByte false = true) → tenth.isPayloadByte true = true →
    s.stimulus = spanCycles nine ++ tenth.cycles ++ rest →
    ∃ u : State, runFor ((spanCycles nine).length + tenth.cycles.length) s = .next u
      ∧ u.st = .check ∧ u.payCnt = 10 ∧ u.stimulus = rest ∧ u.resStatus = s.resStatus
      ∧ u.frame.toList = s.frame[0] :: s.frame[1] :: (spanBytes nine ++ [tenth.last.rxData])
      ∧ u.rxLog = s.rxLog ++ spanBytes nine ++ [tenth.last.rxData]
      ∧ u.txLog = s.txLog

/-- R117, third part: from PAYLOAD with no byte stored yet, a timeout before the tenth byte, alone or in the
cycle of an earlier byte, ends the poll with TRANSPORT_IO_ERROR, with exactly the bytes that came consumed
(R114, R113). -/
def Obligations.ShortPayloadIsAnIoError : Prop :=
  ∀ (s : State) (got : List Span) (late : Span) (rest : List Inputs), s.st = .payload → s.payCnt = 0 →
    (∀ a ∈ got, a.isPayloadByte false = true) → late.isAttempt = true → late.last.rdTimeout = true →
    got.length + late.bytes.length ≤ 9 → s.stimulus = spanCycles got ++ late.cycles ++ rest →
    ∃ u : State, runFor ((spanCycles got).length + late.cycles.length) s = .next u
      ∧ u.st = .done ∧ u.resStatus = 4 ∧ u.resF0 = 0 ∧ u.resF1 = 0 ∧ u.resF2 = 0
      ∧ u.payCnt.toNat = got.length + late.bytes.length ∧ u.stimulus = rest
      ∧ u.rxLog = s.rxLog ++ spanBytes got ++ late.bytes

/-- A whole poll (R117, R144, R220): from IDLE in any state, `start` with the link open, the command taken
with any stalls, at most nine failed attempts, the two header bytes and ten payload bytes with any waits,
and the CHECK cycle, lead to DONE in cycle `t0 + 2 + N_CMD + N_HUNT + N_HDR1 + N_PAY`, with SUCCESS and the
three values at frame offsets 4 to 9 if the checksum is right, else with CHECKSUM_ERROR and values 0. -/
def Obligations.WholePollDeliversTheFrame : Prop :=
  ∀ (s : State) (go last : Inputs) (sends misses nine : List Span) (found second tenth : Span)
    (rest : List Inputs) (f : Frame),
    s.st = .idle → go.rst = false → go.start = true → go.linkOpen = true →
    sends.length = 7 → (∀ a ∈ sends, a.isTransmit = true) →
    misses.length ≤ 9 → (∀ a ∈ misses, a.isAttempt = true ∧ a.findsHeader = false) →
    found.isAttempt = true → found.findsHeader = true → second.isSecondHeader = true →
    nine.length = 9 → (∀ a ∈ nine, a.isPayloadByte false = true) → tenth.isPayloadByte true = true →
    last.rst = false →
    s.stimulus = go :: (spanCycles sends ++ (spanCycles misses ++ found.cycles) ++ second.cycles
      ++ (spanCycles nine ++ tenth.cycles) ++ last :: rest) →
    f.toList = 0x42 :: 0x4D :: (spanBytes nine ++ [tenth.last.rxData]) →
    ∃ u : State,
      runFor (2 + (spanCycles sends).length + ((spanCycles misses).length + found.cycles.length)
        + second.cycles.length + ((spanCycles nine).length + tenth.cycles.length)) s = .next u
      ∧ u.outputs.done = true ∧ u.stimulus = rest ∧ u.frame = f
      ∧ u.outcomeCount = s.outcomeCount + 1 ∧ u.huntCnt.toNat = misses.length
      ∧ u.txLog = s.txLog ++ [0x42, 0x4D, 0xE3, 0x00, 0x00, 0x01, 0x72]
      ∧ u.rxLog = s.rxLog ++ spanBytes misses ++ f.toList
      ∧ u.resCsumCalc = csum16 f ∧ u.resCsumRx = be16 f[10] f[11]
      ∧ (csum16 f = be16 f[10] f[11] → u.resStatus = 0
          ∧ u.resF0 = be16 f[4] f[5] ∧ u.resF1 = be16 f[6] f[7] ∧ u.resF2 = be16 f[8] f[9])
      ∧ (csum16 f ≠ be16 f[10] f[11] → u.resStatus = 3 ∧ u.resF0 = 0 ∧ u.resF1 = 0 ∧ u.resF2 = 0)

/-- R182: a poll is a run without a reset cycle that starts in IDLE with `start = 1` and lasts to the first
return to IDLE, whatever the link, the bytes and the timeouts do. It records exactly one outcome: its last
cycle is in DONE, no earlier one is, and nothing was recorded before. The count of outcomes is the model's own
(log entry 9). -/
def Obligations.EveryPollRecordsOneOutcome : Prop :=
  ∀ (n : Nat) (q : Nat → State), IsRun n q → NoReset n q → (q 0).st = .idle → (q 0).inputNow.start = true →
    0 < n → (∀ k, 0 < k → k < n → (q k).st ≠ .idle) → (q n).st = .idle →
    ∃ m : Nat, n = m + 2 ∧ (q (m + 1)).outputs.done = true
      ∧ (q (m + 1)).outcomeCount = (q 0).outcomeCount + 1 ∧ (q n).outcomeCount = (q 0).outcomeCount + 1
      ∧ (q n).outputs.resStatus = (q (m + 1)).outputs.resStatus
      ∧ ∀ k, k ≤ m → (q k).outputs.done = false ∧ (q k).outcomeCount = (q 0).outcomeCount

/-- R192: if the sink takes a byte at least once in every `N_tx` cycles in which one is offered, and every
read operation lasts at most `T_READ_cycles` cycles, a poll that is started ends within
`1 + 7 N_tx + 12 T_READ_cycles + 2` cycles, with one outcome: for every value of the two bounds, in every
run of that length without a reset, from every state in IDLE. -/
def Obligations.PollsEndWithinTheBound : Prop :=
  ∀ (nTx tRead n : Nat) (q : Nat → State), n = 1 + 7 * nTx + 12 * tRead + 2 →
    IsRun n q → NoReset n q → TxWithin nTx n q → ReadsWithin tRead n q →
    (q 0).st = .idle → (q 0).inputNow.start = true →
    ∃ k : Nat, 0 < k ∧ k ≤ n ∧ (q k).st = .idle ∧ (q k).outcomeCount = (q 0).outcomeCount + 1

/-- R193: while the sink never asserts `tx_ready` in CMD, and while no byte and no timeout come in a read
operation, the poll does not end: `busy` stays 1 through every run, however long, and nothing moves. -/
def Obligations.HangsNeverEnd : Prop :=
  ∀ (n : Nat) (q : Nat → State), IsRun n q → NoReset n q →
    ((q 0).st = .cmd → (∀ k, k < n → (q k).inputNow.txReady = false) →
      ∀ k, k ≤ n → (q k).st = .cmd ∧ (q k).outputs.busy = true ∧ (q k).cmdIdx = (q 0).cmdIdx
        ∧ (q k).txLog = (q 0).txLog)
    ∧ ((q 0).outputs.rxReady = true →
      (∀ k, k < n → (q k).inputNow.rxValid = false ∧ (q k).inputNow.rdTimeout = false) →
      ∀ k, k ≤ n → (q k).st = (q 0).st ∧ (q k).outputs.busy = true ∧ (q k).rxLog = (q 0).rxLog)
end

