-- ==== Sys2Proof/Laws/Decode.lean ====
section
/-! SUPPORT. The step word's fields and the decoder: each field reads back what was packed, each row's match as a condition on the fields, and the one instruction a step word decodes to, as a function of state and inputs. -/

namespace Sys2Proof

/-- The low byte of the step word: everything but `rx_data` (R73). -/
def packLow (t v r l s : Bool) (st : BitVec 3) : BitVec 8 :=
  BitVec.ofBool t ++ BitVec.ofBool v ++ BitVec.ofBool r ++ BitVec.ofBool l ++ BitVec.ofBool s ++ st

theorem packWord_eq_append (d : Byte) (t v r l s : Bool) (st : BitVec 3) :
    packWord d t v r l s st = d ++ packLow t v r l s st := by
  unfold packWord packLow
  apply BitVec.eq_of_getLsbD_eq
  intro i hi
  simp only [BitVec.getLsbD_append]
  repeat' split
  all_goals first | rfl | omega

/-! ### Fields read back what was packed -/

@[simp] theorem fieldD_packWord (d : Byte) (t v r l s : Bool) (st : BitVec 3) :
    fieldD (packWord d t v r l s st) = d := by
  rw [packWord_eq_append]
  exact BitVec.extractLsb'_append_eq_left

theorem packWord_low (d : Byte) (t v r l s : Bool) (st : BitVec 3) :
    (packWord d t v r l s st).extractLsb' 0 8 = packLow t v r l s st := by
  rw [packWord_eq_append]
  exact BitVec.extractLsb'_append_eq_right

theorem getLsbD_packWord_low (d : Byte) (t v r l s : Bool) (st : BitVec 3) (i : Nat) (h : i < 8) :
    (packWord d t v r l s st).getLsbD i = (packLow t v r l s st).getLsbD i := by
  rw [← packWord_low d, BitVec.getLsbD_extractLsb']
  simp [h]

@[simp] theorem fieldT_packWord (d : Byte) (t v r l s : Bool) (st : BitVec 3) :
    fieldT (packWord d t v r l s st) = t := by
  rw [fieldT, getLsbD_packWord_low _ _ _ _ _ _ _ 7 (by omega)]
  revert t v r l s st; decide

@[simp] theorem fieldV_packWord (d : Byte) (t v r l s : Bool) (st : BitVec 3) :
    fieldV (packWord d t v r l s st) = v := by
  rw [fieldV, getLsbD_packWord_low _ _ _ _ _ _ _ 6 (by omega)]
  revert t v r l s st; decide

@[simp] theorem fieldR_packWord (d : Byte) (t v r l s : Bool) (st : BitVec 3) :
    fieldR (packWord d t v r l s st) = r := by
  rw [fieldR, getLsbD_packWord_low _ _ _ _ _ _ _ 5 (by omega)]
  revert t v r l s st; decide

@[simp] theorem fieldL_packWord (d : Byte) (t v r l s : Bool) (st : BitVec 3) :
    fieldL (packWord d t v r l s st) = l := by
  rw [fieldL, getLsbD_packWord_low _ _ _ _ _ _ _ 4 (by omega)]
  revert t v r l s st; decide

@[simp] theorem fieldS_packWord (d : Byte) (t v r l s : Bool) (st : BitVec 3) :
    fieldS (packWord d t v r l s st) = s := by
  rw [fieldS, getLsbD_packWord_low _ _ _ _ _ _ _ 3 (by omega)]
  revert t v r l s st; decide

@[simp] theorem fieldSt_packWord (d : Byte) (t v r l s : Bool) (st : BitVec 3) :
    fieldSt (packWord d t v r l s st) = st := by
  have h : fieldSt (packWord d t v r l s st) = (packLow t v r l s st).extractLsb' 0 3 := by
    rw [← packWord_low d, BitVec.extractLsb'_extractLsb'_of_le (by omega)]
    rfl
  rw [h]; clear h
  revert t v r l s st; decide

/-- A step word is its seven fields (R73). -/
theorem packWord_fields (w : StepWord) :
    packWord (fieldD w) (fieldT w) (fieldV w) (fieldR w) (fieldL w) (fieldS w) (fieldSt w) = w := by
  apply BitVec.eq_of_getLsbD_eq
  intro i hi
  simp only [packWord, fieldD, fieldT, fieldV, fieldR, fieldL, fieldS, fieldSt, BitVec.getLsbD_append,
    BitVec.getLsbD_extractLsb', BitVec.getLsbD_ofBool]
  interval_cases i <;> simp

/-! ### Each row's match as a condition on the fields -/

theorem append_beq_append (a b c d : BitVec 8) :
    ((a ++ b : BitVec 16) == (c ++ d : BitVec 16)) = ((a == c) && (b == d)) := by
  rw [Bool.eq_iff_iff]
  simp only [beq_iff_eq, Bool.and_eq_true]
  constructor
  · intro h
    have h1 := congrArg (BitVec.extractLsb' 8 8) h
    have h2 := congrArg (BitVec.extractLsb' 0 8) h
    rw [BitVec.extractLsb'_append_eq_left, BitVec.extractLsb'_append_eq_left] at h1
    rw [BitVec.extractLsb'_append_eq_right, BitVec.extractLsb'_append_eq_right] at h2
    exact ⟨h1, h2⟩
  · rintro ⟨rfl, rfl⟩; rfl

/-- A row matches a packed word when its two halves do. -/
theorem hits_packWord (n : String) (mh ml ph pl : BitVec 8) (build : StepWord → Instr)
    (d : Byte) (t v r l s : Bool) (st : BitVec 3) :
    Row.hits ⟨n, mh ++ ml, ph ++ pl, build⟩ (packWord d t v r l s st)
      = ((d &&& mh == ph) && (packLow t v r l s st &&& ml == pl)) := by
  unfold Row.hits
  rw [packWord_eq_append, BitVec.and_append, append_beq_append]

theorem low_0F_00 : ∀ (t v r l s : Bool) (st : BitVec 3),
    (packLow t v r l s st &&& 0x0F == 0x00) = (!s && st == 0) := by decide
theorem low_1F_08 : ∀ (t v r l s : Bool) (st : BitVec 3),
    (packLow t v r l s st &&& 0x1F == 0x08) = (!l && s && st == 0) := by decide
theorem low_1F_18 : ∀ (t v r l s : Bool) (st : BitVec 3),
    (packLow t v r l s st &&& 0x1F == 0x18) = (l && s && st == 0) := by decide
theorem low_27_01 : ∀ (t v r l s : Bool) (st : BitVec 3),
    (packLow t v r l s st &&& 0x27 == 0x01) = (!r && st == 1) := by decide
theorem low_27_21 : ∀ (t v r l s : Bool) (st : BitVec 3),
    (packLow t v r l s st &&& 0x27 == 0x21) = (r && st == 1) := by decide
theorem low_47_42 : ∀ (t v r l s : Bool) (st : BitVec 3),
    (packLow t v r l s st &&& 0x47 == 0x42) = (v && st == 2) := by decide
theorem low_C7_82 : ∀ (t v r l s : Bool) (st : BitVec 3),
    (packLow t v r l s st &&& 0xC7 == 0x82) = (t && !v && st == 2) := by decide
theorem low_C7_02 : ∀ (t v r l s : Bool) (st : BitVec 3),
    (packLow t v r l s st &&& 0xC7 == 0x02) = (!t && !v && st == 2) := by decide
theorem low_47_43 : ∀ (t v r l s : Bool) (st : BitVec 3),
    (packLow t v r l s st &&& 0x47 == 0x43) = (v && st == 3) := by decide
theorem low_C7_83 : ∀ (t v r l s : Bool) (st : BitVec 3),
    (packLow t v r l s st &&& 0xC7 == 0x83) = (t && !v && st == 3) := by decide
theorem low_C7_03 : ∀ (t v r l s : Bool) (st : BitVec 3),
    (packLow t v r l s st &&& 0xC7 == 0x03) = (!t && !v && st == 3) := by decide
theorem low_47_44 : ∀ (t v r l s : Bool) (st : BitVec 3),
    (packLow t v r l s st &&& 0x47 == 0x44) = (v && st == 4) := by decide
theorem low_C7_84 : ∀ (t v r l s : Bool) (st : BitVec 3),
    (packLow t v r l s st &&& 0xC7 == 0x84) = (t && !v && st == 4) := by decide
theorem low_C7_04 : ∀ (t v r l s : Bool) (st : BitVec 3),
    (packLow t v r l s st &&& 0xC7 == 0x04) = (!t && !v && st == 4) := by decide
theorem low_07_05 : ∀ (t v r l s : Bool) (st : BitVec 3),
    (packLow t v r l s st &&& 0x07 == 0x05) = (st == 5) := by decide
theorem low_07_06 : ∀ (t v r l s : Bool) (st : BitVec 3),
    (packLow t v r l s st &&& 0x07 == 0x06) = (st == 6) := by decide
theorem low_07_07 : ∀ (t v r l s : Bool) (st : BitVec 3),
    (packLow t v r l s st &&& 0x07 == 0x07) = (st == 7) := by decide

/-- A row that does not look at `rx_data`. -/
theorem hits_any_data (n : String) (m p : StepWord) (ml pl : BitVec 8) (build : StepWord → Instr)
    (hm : m = (0 : BitVec 8) ++ ml) (hp : p = (0 : BitVec 8) ++ pl) (d : Byte) (t v r l s : Bool) (st : BitVec 3) :
    Row.hits ⟨n, m, p, build⟩ (packWord d t v r l s st) = (packLow t v r l s st &&& ml == pl) := by
  subst hm hp
  rw [hits_packWord]
  simp

/-- A row that matches all of `rx_data`. -/
theorem hits_exact_data (n : String) (m p : StepWord) (b ml pl : BitVec 8) (build : StepWord → Instr)
    (hm : m = (0xFF : BitVec 8) ++ ml) (hp : p = b ++ pl) (d : Byte) (t v r l s : Bool) (st : BitVec 3) :
    Row.hits ⟨n, m, p, build⟩ (packWord d t v r l s st) = ((d == b) && (packLow t v r l s st &&& ml == pl)) := by
  subst hm hp
  have hd : d &&& (0xFF : BitVec 8) = d := BitVec.and_allOnes
  rw [hits_packWord, hd]

namespace Machine

/-- The instruction that a cycle in state `st` with inputs `inp` decodes to: R75, the table of R74 in
prose. -/
def selected (st : SeqState) (inp : Inputs) : Instr :=
  match st with
  | .idle =>
    if inp.start then
      if inp.linkOpen then .idleStart inp.rxData inp.rdTimeout inp.rxValid inp.txReady
      else .idleNolink inp.rxData inp.rdTimeout inp.rxValid inp.txReady
    else .idleWait inp.rxData inp.rdTimeout inp.rxValid inp.txReady inp.linkOpen
  | .cmd =>
    if inp.txReady then .cmdSend inp.rxData inp.rdTimeout inp.rxValid inp.linkOpen inp.start
    else .cmdStall inp.rxData inp.rdTimeout inp.rxValid inp.linkOpen inp.start
  | .hunt =>
    if inp.rxValid then
      if inp.rxData = 0x42 then .huntMatch inp.rdTimeout inp.txReady inp.linkOpen inp.start
      else .huntDiscard inp.rxData inp.rdTimeout inp.txReady inp.linkOpen inp.start
    else if inp.rdTimeout then .huntTimeout inp.rxData inp.txReady inp.linkOpen inp.start
    else .huntWait inp.rxData inp.txReady inp.linkOpen inp.start
  | .hdr1 =>
    if inp.rxValid then
      if inp.rxData = 0x4D then .hdr1Match inp.rdTimeout inp.txReady inp.linkOpen inp.start
      else .hdr1Mismatch inp.rxData inp.rdTimeout inp.txReady inp.linkOpen inp.start
    else if inp.rdTimeout then .hdr1Timeout inp.rxData inp.txReady inp.linkOpen inp.start
    else .hdr1Wait inp.rxData inp.txReady inp.linkOpen inp.start
  | .payload =>
    if inp.rxValid then .payByte inp.rxData inp.rdTimeout inp.txReady inp.linkOpen inp.start
    else if inp.rdTimeout then .payTimeout inp.rxData inp.txReady inp.linkOpen inp.start
    else .payWait inp.rxData inp.txReady inp.linkOpen inp.start
  | .check => .checkEval inp.rxData inp.rdTimeout inp.rxValid inp.txReady inp.linkOpen inp.start
  | .done => .doneRet inp.rxData inp.rdTimeout inp.rxValid inp.txReady inp.linkOpen inp.start
  | .unused7 => .illegalState inp.rxData inp.rdTimeout inp.rxValid inp.txReady inp.linkOpen inp.start

/-- The table of R74 selects what its prose R75 says: in particular every step word of a cycle decodes. -/
theorem decode_stepWord (st : SeqState) (inp : Inputs) : decode (stepWord st inp) = .ok (selected st inp) := by
  obtain ⟨rst, s, l, r, v, d, t⟩ := inp
  simp only [decode, stepWord, table, rowsIdle, rowsCmd, rowsHunt, rowsHdr1, rowsPayload, rowsOneCycle,
    List.cons_append, List.nil_append, List.find?_cons, List.find?_nil]
  rw [hits_any_data _ 0x000F 0x0000 0x0F 0x00 _ rfl rfl, hits_any_data _ 0x001F 0x0008 0x1F 0x08 _ rfl rfl,
    hits_any_data _ 0x001F 0x0018 0x1F 0x18 _ rfl rfl, hits_any_data _ 0x0027 0x0001 0x27 0x01 _ rfl rfl,
    hits_any_data _ 0x0027 0x0021 0x27 0x21 _ rfl rfl, hits_exact_data _ 0xFF47 0x4242 0x42 0x47 0x42 _ rfl rfl,
    hits_any_data _ 0x0047 0x0042 0x47 0x42 _ rfl rfl, hits_any_data _ 0x00C7 0x0082 0xC7 0x82 _ rfl rfl,
    hits_any_data _ 0x00C7 0x0002 0xC7 0x02 _ rfl rfl, hits_exact_data _ 0xFF47 0x4D43 0x4D 0x47 0x43 _ rfl rfl,
    hits_any_data _ 0x0047 0x0043 0x47 0x43 _ rfl rfl, hits_any_data _ 0x00C7 0x0083 0xC7 0x83 _ rfl rfl,
    hits_any_data _ 0x00C7 0x0003 0xC7 0x03 _ rfl rfl, hits_any_data _ 0x0047 0x0044 0x47 0x44 _ rfl rfl,
    hits_any_data _ 0x00C7 0x0084 0xC7 0x84 _ rfl rfl, hits_any_data _ 0x00C7 0x0004 0xC7 0x04 _ rfl rfl,
    hits_any_data _ 0x0007 0x0005 0x07 0x05 _ rfl rfl, hits_any_data _ 0x0007 0x0006 0x07 0x06 _ rfl rfl,
    hits_any_data _ 0x0007 0x0007 0x07 0x07 _ rfl rfl]
  simp only [low_0F_00, low_1F_08, low_1F_18, low_27_01, low_27_21, low_47_42, low_C7_82, low_C7_02, low_47_43,
    low_C7_83, low_C7_03, low_47_44, low_C7_84, low_C7_04, low_07_05, low_07_06, low_07_07]
  cases st
  case idle => cases s <;> cases l <;> simp [SeqState.code, selected]
  case cmd => cases r <;> simp [SeqState.code, selected]
  case hunt =>
    have hb : (d == 66#8) = decide (d = 66#8) := rfl
    cases v <;> cases t <;> by_cases hd : d = 66#8 <;> simp [SeqState.code, selected, hb, hd]
  case hdr1 =>
    have hb : (d == 77#8) = decide (d = 77#8) := rfl
    cases v <;> cases t <;> by_cases hd : d = 77#8 <;> simp [SeqState.code, selected, hb, hd]
  case payload => cases v <;> cases t <;> simp [SeqState.code, selected]
  case check => simp [SeqState.code, selected]
  case done => simp [SeqState.code, selected]
  case unused7 => simp [SeqState.code, selected]

@[simp] theorem ofCode_code (st : SeqState) : SeqState.ofCode st.code = st := by cases st <;> rfl

theorem code_ofCode (c : BitVec 3) : (SeqState.ofCode c).code = c := by revert c; decide

end Machine

end Sys2Proof
end

