-- ==== Sys2Proof/Laws/State.lean ====
section
/-! SUPPORT. One lemma per field per update of State: what each shared operation of Machine/Ops.lean leaves in every field. Later proofs cite these and do not unfold a record update. -/

namespace Sys2Proof.Machine

@[simp] theorem beginRule_st (s : State) : (beginRule s).st = s.st := rfl
@[simp] theorem beginRule_cmdIdx (s : State) : (beginRule s).cmdIdx = s.cmdIdx := rfl
@[simp] theorem beginRule_huntCnt (s : State) : (beginRule s).huntCnt = s.huntCnt := rfl
@[simp] theorem beginRule_payCnt (s : State) : (beginRule s).payCnt = s.payCnt := rfl
@[simp] theorem beginRule_frame (s : State) : (beginRule s).frame = s.frame := rfl
@[simp] theorem beginRule_rdStartQ (s : State) : (beginRule s).rdStartQ = false := rfl
@[simp] theorem beginRule_resStatus (s : State) : (beginRule s).resStatus = s.resStatus := rfl
@[simp] theorem beginRule_resF0 (s : State) : (beginRule s).resF0 = s.resF0 := rfl
@[simp] theorem beginRule_resF1 (s : State) : (beginRule s).resF1 = s.resF1 := rfl
@[simp] theorem beginRule_resF2 (s : State) : (beginRule s).resF2 = s.resF2 := rfl
@[simp] theorem beginRule_resCsumCalc (s : State) : (beginRule s).resCsumCalc = s.resCsumCalc := rfl
@[simp] theorem beginRule_resCsumRx (s : State) : (beginRule s).resCsumRx = s.resCsumRx := rfl
@[simp] theorem beginRule_stimulus (s : State) : (beginRule s).stimulus = s.stimulus := rfl
@[simp] theorem beginRule_cycle (s : State) : (beginRule s).cycle = s.cycle := rfl
@[simp] theorem beginRule_rxLog (s : State) : (beginRule s).rxLog = s.rxLog := rfl
@[simp] theorem beginRule_txLog (s : State) : (beginRule s).txLog = s.txLog := rfl
@[simp] theorem beginRule_frameWritten (s : State) : (beginRule s).frameWritten = s.frameWritten := rfl
@[simp] theorem beginRule_outcomeCount (s : State) : (beginRule s).outcomeCount = s.outcomeCount := rfl

@[simp] theorem startRead_st (s : State) : (startRead s).st = s.st := rfl
@[simp] theorem startRead_cmdIdx (s : State) : (startRead s).cmdIdx = s.cmdIdx := rfl
@[simp] theorem startRead_huntCnt (s : State) : (startRead s).huntCnt = s.huntCnt := rfl
@[simp] theorem startRead_payCnt (s : State) : (startRead s).payCnt = s.payCnt := rfl
@[simp] theorem startRead_frame (s : State) : (startRead s).frame = s.frame := rfl
@[simp] theorem startRead_rdStartQ (s : State) : (startRead s).rdStartQ = true := rfl
@[simp] theorem startRead_resStatus (s : State) : (startRead s).resStatus = s.resStatus := rfl
@[simp] theorem startRead_resF0 (s : State) : (startRead s).resF0 = s.resF0 := rfl
@[simp] theorem startRead_resF1 (s : State) : (startRead s).resF1 = s.resF1 := rfl
@[simp] theorem startRead_resF2 (s : State) : (startRead s).resF2 = s.resF2 := rfl
@[simp] theorem startRead_resCsumCalc (s : State) : (startRead s).resCsumCalc = s.resCsumCalc := rfl
@[simp] theorem startRead_resCsumRx (s : State) : (startRead s).resCsumRx = s.resCsumRx := rfl
@[simp] theorem startRead_stimulus (s : State) : (startRead s).stimulus = s.stimulus := rfl
@[simp] theorem startRead_cycle (s : State) : (startRead s).cycle = s.cycle := rfl
@[simp] theorem startRead_rxLog (s : State) : (startRead s).rxLog = s.rxLog := rfl
@[simp] theorem startRead_txLog (s : State) : (startRead s).txLog = s.txLog := rfl
@[simp] theorem startRead_frameWritten (s : State) : (startRead s).frameWritten = s.frameWritten := rfl
@[simp] theorem startRead_outcomeCount (s : State) : (startRead s).outcomeCount = s.outcomeCount := rfl

@[simp] theorem rxTake_st (b : Byte) (s : State) : (rxTake b s).st = s.st := rfl
@[simp] theorem rxTake_cmdIdx (b : Byte) (s : State) : (rxTake b s).cmdIdx = s.cmdIdx := rfl
@[simp] theorem rxTake_huntCnt (b : Byte) (s : State) : (rxTake b s).huntCnt = s.huntCnt := rfl
@[simp] theorem rxTake_payCnt (b : Byte) (s : State) : (rxTake b s).payCnt = s.payCnt := rfl
@[simp] theorem rxTake_frame (b : Byte) (s : State) : (rxTake b s).frame = s.frame := rfl
@[simp] theorem rxTake_rdStartQ (b : Byte) (s : State) : (rxTake b s).rdStartQ = s.rdStartQ := rfl
@[simp] theorem rxTake_resStatus (b : Byte) (s : State) : (rxTake b s).resStatus = s.resStatus := rfl
@[simp] theorem rxTake_resF0 (b : Byte) (s : State) : (rxTake b s).resF0 = s.resF0 := rfl
@[simp] theorem rxTake_resF1 (b : Byte) (s : State) : (rxTake b s).resF1 = s.resF1 := rfl
@[simp] theorem rxTake_resF2 (b : Byte) (s : State) : (rxTake b s).resF2 = s.resF2 := rfl
@[simp] theorem rxTake_resCsumCalc (b : Byte) (s : State) : (rxTake b s).resCsumCalc = s.resCsumCalc := rfl
@[simp] theorem rxTake_resCsumRx (b : Byte) (s : State) : (rxTake b s).resCsumRx = s.resCsumRx := rfl
@[simp] theorem rxTake_stimulus (b : Byte) (s : State) : (rxTake b s).stimulus = s.stimulus := rfl
@[simp] theorem rxTake_cycle (b : Byte) (s : State) : (rxTake b s).cycle = s.cycle := rfl
@[simp] theorem rxTake_rxLog (b : Byte) (s : State) : (rxTake b s).rxLog = s.rxLog ++ [b] := rfl
@[simp] theorem rxTake_txLog (b : Byte) (s : State) : (rxTake b s).txLog = s.txLog := rfl
@[simp] theorem rxTake_frameWritten (b : Byte) (s : State) : (rxTake b s).frameWritten = s.frameWritten := rfl
@[simp] theorem rxTake_outcomeCount (b : Byte) (s : State) : (rxTake b s).outcomeCount = s.outcomeCount := rfl

@[simp] theorem txPut_st (b : Byte) (s : State) : (txPut b s).st = s.st := rfl
@[simp] theorem txPut_cmdIdx (b : Byte) (s : State) : (txPut b s).cmdIdx = s.cmdIdx := rfl
@[simp] theorem txPut_huntCnt (b : Byte) (s : State) : (txPut b s).huntCnt = s.huntCnt := rfl
@[simp] theorem txPut_payCnt (b : Byte) (s : State) : (txPut b s).payCnt = s.payCnt := rfl
@[simp] theorem txPut_frame (b : Byte) (s : State) : (txPut b s).frame = s.frame := rfl
@[simp] theorem txPut_rdStartQ (b : Byte) (s : State) : (txPut b s).rdStartQ = s.rdStartQ := rfl
@[simp] theorem txPut_resStatus (b : Byte) (s : State) : (txPut b s).resStatus = s.resStatus := rfl
@[simp] theorem txPut_resF0 (b : Byte) (s : State) : (txPut b s).resF0 = s.resF0 := rfl
@[simp] theorem txPut_resF1 (b : Byte) (s : State) : (txPut b s).resF1 = s.resF1 := rfl
@[simp] theorem txPut_resF2 (b : Byte) (s : State) : (txPut b s).resF2 = s.resF2 := rfl
@[simp] theorem txPut_resCsumCalc (b : Byte) (s : State) : (txPut b s).resCsumCalc = s.resCsumCalc := rfl
@[simp] theorem txPut_resCsumRx (b : Byte) (s : State) : (txPut b s).resCsumRx = s.resCsumRx := rfl
@[simp] theorem txPut_stimulus (b : Byte) (s : State) : (txPut b s).stimulus = s.stimulus := rfl
@[simp] theorem txPut_cycle (b : Byte) (s : State) : (txPut b s).cycle = s.cycle := rfl
@[simp] theorem txPut_rxLog (b : Byte) (s : State) : (txPut b s).rxLog = s.rxLog := rfl
@[simp] theorem txPut_txLog (b : Byte) (s : State) : (txPut b s).txLog = s.txLog ++ [b] := rfl
@[simp] theorem txPut_frameWritten (b : Byte) (s : State) : (txPut b s).frameWritten = s.frameWritten := rfl
@[simp] theorem txPut_outcomeCount (b : Byte) (s : State) : (txPut b s).outcomeCount = s.outcomeCount := rfl

@[simp] theorem storeFrame_st (k : Fin 12) (b : Byte) (s : State) : (storeFrame k b s).st = s.st := rfl
@[simp] theorem storeFrame_cmdIdx (k : Fin 12) (b : Byte) (s : State) : (storeFrame k b s).cmdIdx = s.cmdIdx := rfl
@[simp] theorem storeFrame_huntCnt (k : Fin 12) (b : Byte) (s : State) : (storeFrame k b s).huntCnt = s.huntCnt := rfl
@[simp] theorem storeFrame_payCnt (k : Fin 12) (b : Byte) (s : State) : (storeFrame k b s).payCnt = s.payCnt := rfl
@[simp] theorem storeFrame_frame (k : Fin 12) (b : Byte) (s : State) : (storeFrame k b s).frame = s.frame.set k b := rfl
@[simp] theorem storeFrame_rdStartQ (k : Fin 12) (b : Byte) (s : State) : (storeFrame k b s).rdStartQ = s.rdStartQ := rfl
@[simp] theorem storeFrame_resStatus (k : Fin 12) (b : Byte) (s : State) : (storeFrame k b s).resStatus = s.resStatus := rfl
@[simp] theorem storeFrame_resF0 (k : Fin 12) (b : Byte) (s : State) : (storeFrame k b s).resF0 = s.resF0 := rfl
@[simp] theorem storeFrame_resF1 (k : Fin 12) (b : Byte) (s : State) : (storeFrame k b s).resF1 = s.resF1 := rfl
@[simp] theorem storeFrame_resF2 (k : Fin 12) (b : Byte) (s : State) : (storeFrame k b s).resF2 = s.resF2 := rfl
@[simp] theorem storeFrame_resCsumCalc (k : Fin 12) (b : Byte) (s : State) : (storeFrame k b s).resCsumCalc = s.resCsumCalc := rfl
@[simp] theorem storeFrame_resCsumRx (k : Fin 12) (b : Byte) (s : State) : (storeFrame k b s).resCsumRx = s.resCsumRx := rfl
@[simp] theorem storeFrame_stimulus (k : Fin 12) (b : Byte) (s : State) : (storeFrame k b s).stimulus = s.stimulus := rfl
@[simp] theorem storeFrame_cycle (k : Fin 12) (b : Byte) (s : State) : (storeFrame k b s).cycle = s.cycle := rfl
@[simp] theorem storeFrame_rxLog (k : Fin 12) (b : Byte) (s : State) : (storeFrame k b s).rxLog = s.rxLog := rfl
@[simp] theorem storeFrame_txLog (k : Fin 12) (b : Byte) (s : State) : (storeFrame k b s).txLog = s.txLog := rfl
@[simp] theorem storeFrame_frameWritten (k : Fin 12) (b : Byte) (s : State) : (storeFrame k b s).frameWritten = s.frameWritten.set k true := rfl
@[simp] theorem storeFrame_outcomeCount (k : Fin 12) (b : Byte) (s : State) : (storeFrame k b s).outcomeCount = s.outcomeCount := rfl

@[simp] theorem beginPoll_st (s : State) : (beginPoll s).st = s.st := rfl
@[simp] theorem beginPoll_cmdIdx (s : State) : (beginPoll s).cmdIdx = s.cmdIdx := rfl
@[simp] theorem beginPoll_huntCnt (s : State) : (beginPoll s).huntCnt = s.huntCnt := rfl
@[simp] theorem beginPoll_payCnt (s : State) : (beginPoll s).payCnt = s.payCnt := rfl
@[simp] theorem beginPoll_frame (s : State) : (beginPoll s).frame = s.frame := rfl
@[simp] theorem beginPoll_rdStartQ (s : State) : (beginPoll s).rdStartQ = s.rdStartQ := rfl
@[simp] theorem beginPoll_resStatus (s : State) : (beginPoll s).resStatus = s.resStatus := rfl
@[simp] theorem beginPoll_resF0 (s : State) : (beginPoll s).resF0 = s.resF0 := rfl
@[simp] theorem beginPoll_resF1 (s : State) : (beginPoll s).resF1 = s.resF1 := rfl
@[simp] theorem beginPoll_resF2 (s : State) : (beginPoll s).resF2 = s.resF2 := rfl
@[simp] theorem beginPoll_resCsumCalc (s : State) : (beginPoll s).resCsumCalc = s.resCsumCalc := rfl
@[simp] theorem beginPoll_resCsumRx (s : State) : (beginPoll s).resCsumRx = s.resCsumRx := rfl
@[simp] theorem beginPoll_stimulus (s : State) : (beginPoll s).stimulus = s.stimulus := rfl
@[simp] theorem beginPoll_cycle (s : State) : (beginPoll s).cycle = s.cycle := rfl
@[simp] theorem beginPoll_rxLog (s : State) : (beginPoll s).rxLog = s.rxLog := rfl
@[simp] theorem beginPoll_txLog (s : State) : (beginPoll s).txLog = s.txLog := rfl
@[simp] theorem beginPoll_frameWritten (s : State) : (beginPoll s).frameWritten = Vector.replicate 12 false := rfl
@[simp] theorem beginPoll_outcomeCount (s : State) : (beginPoll s).outcomeCount = s.outcomeCount := rfl

@[simp] theorem finish_st (c : OutcomeCode) (f0 f1 f2 cc cr : Value) (s : State) : (finish c f0 f1 f2 cc cr s).st = .done := rfl
@[simp] theorem finish_cmdIdx (c : OutcomeCode) (f0 f1 f2 cc cr : Value) (s : State) : (finish c f0 f1 f2 cc cr s).cmdIdx = s.cmdIdx := rfl
@[simp] theorem finish_huntCnt (c : OutcomeCode) (f0 f1 f2 cc cr : Value) (s : State) : (finish c f0 f1 f2 cc cr s).huntCnt = s.huntCnt := rfl
@[simp] theorem finish_payCnt (c : OutcomeCode) (f0 f1 f2 cc cr : Value) (s : State) : (finish c f0 f1 f2 cc cr s).payCnt = s.payCnt := rfl
@[simp] theorem finish_frame (c : OutcomeCode) (f0 f1 f2 cc cr : Value) (s : State) : (finish c f0 f1 f2 cc cr s).frame = s.frame := rfl
@[simp] theorem finish_rdStartQ (c : OutcomeCode) (f0 f1 f2 cc cr : Value) (s : State) : (finish c f0 f1 f2 cc cr s).rdStartQ = s.rdStartQ := rfl
@[simp] theorem finish_resStatus (c : OutcomeCode) (f0 f1 f2 cc cr : Value) (s : State) : (finish c f0 f1 f2 cc cr s).resStatus = c.code := rfl
@[simp] theorem finish_resF0 (c : OutcomeCode) (f0 f1 f2 cc cr : Value) (s : State) : (finish c f0 f1 f2 cc cr s).resF0 = f0 := rfl
@[simp] theorem finish_resF1 (c : OutcomeCode) (f0 f1 f2 cc cr : Value) (s : State) : (finish c f0 f1 f2 cc cr s).resF1 = f1 := rfl
@[simp] theorem finish_resF2 (c : OutcomeCode) (f0 f1 f2 cc cr : Value) (s : State) : (finish c f0 f1 f2 cc cr s).resF2 = f2 := rfl
@[simp] theorem finish_resCsumCalc (c : OutcomeCode) (f0 f1 f2 cc cr : Value) (s : State) : (finish c f0 f1 f2 cc cr s).resCsumCalc = cc := rfl
@[simp] theorem finish_resCsumRx (c : OutcomeCode) (f0 f1 f2 cc cr : Value) (s : State) : (finish c f0 f1 f2 cc cr s).resCsumRx = cr := rfl
@[simp] theorem finish_stimulus (c : OutcomeCode) (f0 f1 f2 cc cr : Value) (s : State) : (finish c f0 f1 f2 cc cr s).stimulus = s.stimulus := rfl
@[simp] theorem finish_cycle (c : OutcomeCode) (f0 f1 f2 cc cr : Value) (s : State) : (finish c f0 f1 f2 cc cr s).cycle = s.cycle := rfl
@[simp] theorem finish_rxLog (c : OutcomeCode) (f0 f1 f2 cc cr : Value) (s : State) : (finish c f0 f1 f2 cc cr s).rxLog = s.rxLog := rfl
@[simp] theorem finish_txLog (c : OutcomeCode) (f0 f1 f2 cc cr : Value) (s : State) : (finish c f0 f1 f2 cc cr s).txLog = s.txLog := rfl
@[simp] theorem finish_frameWritten (c : OutcomeCode) (f0 f1 f2 cc cr : Value) (s : State) : (finish c f0 f1 f2 cc cr s).frameWritten = s.frameWritten := rfl
@[simp] theorem finish_outcomeCount (c : OutcomeCode) (f0 f1 f2 cc cr : Value) (s : State) : (finish c f0 f1 f2 cc cr s).outcomeCount = s.outcomeCount + 1 := rfl

@[simp] theorem finishFailed_st (c : OutcomeCode) (s : State) : (finishFailed c s).st = .done := rfl
@[simp] theorem finishFailed_cmdIdx (c : OutcomeCode) (s : State) : (finishFailed c s).cmdIdx = s.cmdIdx := rfl
@[simp] theorem finishFailed_huntCnt (c : OutcomeCode) (s : State) : (finishFailed c s).huntCnt = s.huntCnt := rfl
@[simp] theorem finishFailed_payCnt (c : OutcomeCode) (s : State) : (finishFailed c s).payCnt = s.payCnt := rfl
@[simp] theorem finishFailed_frame (c : OutcomeCode) (s : State) : (finishFailed c s).frame = s.frame := rfl
@[simp] theorem finishFailed_rdStartQ (c : OutcomeCode) (s : State) : (finishFailed c s).rdStartQ = s.rdStartQ := rfl
@[simp] theorem finishFailed_resStatus (c : OutcomeCode) (s : State) : (finishFailed c s).resStatus = c.code := rfl
@[simp] theorem finishFailed_resF0 (c : OutcomeCode) (s : State) : (finishFailed c s).resF0 = 0 := rfl
@[simp] theorem finishFailed_resF1 (c : OutcomeCode) (s : State) : (finishFailed c s).resF1 = 0 := rfl
@[simp] theorem finishFailed_resF2 (c : OutcomeCode) (s : State) : (finishFailed c s).resF2 = 0 := rfl
@[simp] theorem finishFailed_resCsumCalc (c : OutcomeCode) (s : State) : (finishFailed c s).resCsumCalc = 0 := rfl
@[simp] theorem finishFailed_resCsumRx (c : OutcomeCode) (s : State) : (finishFailed c s).resCsumRx = 0 := rfl
@[simp] theorem finishFailed_stimulus (c : OutcomeCode) (s : State) : (finishFailed c s).stimulus = s.stimulus := rfl
@[simp] theorem finishFailed_cycle (c : OutcomeCode) (s : State) : (finishFailed c s).cycle = s.cycle := rfl
@[simp] theorem finishFailed_rxLog (c : OutcomeCode) (s : State) : (finishFailed c s).rxLog = s.rxLog := rfl
@[simp] theorem finishFailed_txLog (c : OutcomeCode) (s : State) : (finishFailed c s).txLog = s.txLog := rfl
@[simp] theorem finishFailed_frameWritten (c : OutcomeCode) (s : State) : (finishFailed c s).frameWritten = s.frameWritten := rfl
@[simp] theorem finishFailed_outcomeCount (c : OutcomeCode) (s : State) : (finishFailed c s).outcomeCount = s.outcomeCount + 1 := rfl

@[simp] theorem returnToIdle_st (s : State) : (returnToIdle s).st = .idle := rfl
@[simp] theorem returnToIdle_cmdIdx (s : State) : (returnToIdle s).cmdIdx = s.cmdIdx := rfl
@[simp] theorem returnToIdle_huntCnt (s : State) : (returnToIdle s).huntCnt = s.huntCnt := rfl
@[simp] theorem returnToIdle_payCnt (s : State) : (returnToIdle s).payCnt = s.payCnt := rfl
@[simp] theorem returnToIdle_frame (s : State) : (returnToIdle s).frame = s.frame := rfl
@[simp] theorem returnToIdle_rdStartQ (s : State) : (returnToIdle s).rdStartQ = s.rdStartQ := rfl
@[simp] theorem returnToIdle_resStatus (s : State) : (returnToIdle s).resStatus = s.resStatus := rfl
@[simp] theorem returnToIdle_resF0 (s : State) : (returnToIdle s).resF0 = s.resF0 := rfl
@[simp] theorem returnToIdle_resF1 (s : State) : (returnToIdle s).resF1 = s.resF1 := rfl
@[simp] theorem returnToIdle_resF2 (s : State) : (returnToIdle s).resF2 = s.resF2 := rfl
@[simp] theorem returnToIdle_resCsumCalc (s : State) : (returnToIdle s).resCsumCalc = s.resCsumCalc := rfl
@[simp] theorem returnToIdle_resCsumRx (s : State) : (returnToIdle s).resCsumRx = s.resCsumRx := rfl
@[simp] theorem returnToIdle_stimulus (s : State) : (returnToIdle s).stimulus = s.stimulus := rfl
@[simp] theorem returnToIdle_cycle (s : State) : (returnToIdle s).cycle = s.cycle := rfl
@[simp] theorem returnToIdle_rxLog (s : State) : (returnToIdle s).rxLog = s.rxLog := rfl
@[simp] theorem returnToIdle_txLog (s : State) : (returnToIdle s).txLog = s.txLog := rfl
@[simp] theorem returnToIdle_frameWritten (s : State) : (returnToIdle s).frameWritten = s.frameWritten := rfl
@[simp] theorem returnToIdle_outcomeCount (s : State) : (returnToIdle s).outcomeCount = s.outcomeCount := rfl

@[simp] theorem clearResults_st (s : State) : (clearResults s).st = s.st := rfl
@[simp] theorem clearResults_cmdIdx (s : State) : (clearResults s).cmdIdx = s.cmdIdx := rfl
@[simp] theorem clearResults_huntCnt (s : State) : (clearResults s).huntCnt = s.huntCnt := rfl
@[simp] theorem clearResults_payCnt (s : State) : (clearResults s).payCnt = s.payCnt := rfl
@[simp] theorem clearResults_frame (s : State) : (clearResults s).frame = s.frame := rfl
@[simp] theorem clearResults_rdStartQ (s : State) : (clearResults s).rdStartQ = s.rdStartQ := rfl
@[simp] theorem clearResults_resStatus (s : State) : (clearResults s).resStatus = 7 := rfl
@[simp] theorem clearResults_resF0 (s : State) : (clearResults s).resF0 = 0 := rfl
@[simp] theorem clearResults_resF1 (s : State) : (clearResults s).resF1 = 0 := rfl
@[simp] theorem clearResults_resF2 (s : State) : (clearResults s).resF2 = 0 := rfl
@[simp] theorem clearResults_resCsumCalc (s : State) : (clearResults s).resCsumCalc = 0 := rfl
@[simp] theorem clearResults_resCsumRx (s : State) : (clearResults s).resCsumRx = 0 := rfl
@[simp] theorem clearResults_stimulus (s : State) : (clearResults s).stimulus = s.stimulus := rfl
@[simp] theorem clearResults_cycle (s : State) : (clearResults s).cycle = s.cycle := rfl
@[simp] theorem clearResults_rxLog (s : State) : (clearResults s).rxLog = s.rxLog := rfl
@[simp] theorem clearResults_txLog (s : State) : (clearResults s).txLog = s.txLog := rfl
@[simp] theorem clearResults_frameWritten (s : State) : (clearResults s).frameWritten = s.frameWritten := rfl
@[simp] theorem clearResults_outcomeCount (s : State) : (clearResults s).outcomeCount = s.outcomeCount := rfl

@[simp] theorem resetTransfers_st (inp : Inputs) (s : State) : (resetTransfers inp s).st = s.st := rfl
@[simp] theorem resetTransfers_cmdIdx (inp : Inputs) (s : State) : (resetTransfers inp s).cmdIdx = s.cmdIdx := rfl
@[simp] theorem resetTransfers_huntCnt (inp : Inputs) (s : State) : (resetTransfers inp s).huntCnt = s.huntCnt := rfl
@[simp] theorem resetTransfers_payCnt (inp : Inputs) (s : State) : (resetTransfers inp s).payCnt = s.payCnt := rfl
@[simp] theorem resetTransfers_frame (inp : Inputs) (s : State) : (resetTransfers inp s).frame = s.frame := rfl
@[simp] theorem resetTransfers_rdStartQ (inp : Inputs) (s : State) : (resetTransfers inp s).rdStartQ = s.rdStartQ := rfl
@[simp] theorem resetTransfers_resStatus (inp : Inputs) (s : State) : (resetTransfers inp s).resStatus = s.resStatus := rfl
@[simp] theorem resetTransfers_resF0 (inp : Inputs) (s : State) : (resetTransfers inp s).resF0 = s.resF0 := rfl
@[simp] theorem resetTransfers_resF1 (inp : Inputs) (s : State) : (resetTransfers inp s).resF1 = s.resF1 := rfl
@[simp] theorem resetTransfers_resF2 (inp : Inputs) (s : State) : (resetTransfers inp s).resF2 = s.resF2 := rfl
@[simp] theorem resetTransfers_resCsumCalc (inp : Inputs) (s : State) : (resetTransfers inp s).resCsumCalc = s.resCsumCalc := rfl
@[simp] theorem resetTransfers_resCsumRx (inp : Inputs) (s : State) : (resetTransfers inp s).resCsumRx = s.resCsumRx := rfl
@[simp] theorem resetTransfers_stimulus (inp : Inputs) (s : State) : (resetTransfers inp s).stimulus = s.stimulus := rfl
@[simp] theorem resetTransfers_cycle (inp : Inputs) (s : State) : (resetTransfers inp s).cycle = s.cycle := rfl
@[simp] theorem resetTransfers_rxLog (inp : Inputs) (s : State) : (resetTransfers inp s).rxLog = if rxFire inp s then s.rxLog ++ [inp.rxData] else s.rxLog := rfl
@[simp] theorem resetTransfers_txLog (inp : Inputs) (s : State) : (resetTransfers inp s).txLog = if txFire inp s then s.txLog ++ [s.txData] else s.txLog := rfl
@[simp] theorem resetTransfers_frameWritten (inp : Inputs) (s : State) : (resetTransfers inp s).frameWritten = s.frameWritten := rfl
@[simp] theorem resetTransfers_outcomeCount (inp : Inputs) (s : State) : (resetTransfers inp s).outcomeCount = s.outcomeCount := rfl

@[simp] theorem resetRegisters_st (s : State) : (resetRegisters s).st = .idle := rfl
@[simp] theorem resetRegisters_cmdIdx (s : State) : (resetRegisters s).cmdIdx = 0 := rfl
@[simp] theorem resetRegisters_huntCnt (s : State) : (resetRegisters s).huntCnt = 0 := rfl
@[simp] theorem resetRegisters_payCnt (s : State) : (resetRegisters s).payCnt = 0 := rfl
@[simp] theorem resetRegisters_frame (s : State) : (resetRegisters s).frame = Vector.ofFn fun k => Config.frameAfterReset s.cycle k.val s.frame[k.val] := rfl
@[simp] theorem resetRegisters_rdStartQ (s : State) : (resetRegisters s).rdStartQ = false := rfl
@[simp] theorem resetRegisters_resStatus (s : State) : (resetRegisters s).resStatus = 7 := rfl
@[simp] theorem resetRegisters_resF0 (s : State) : (resetRegisters s).resF0 = 0 := rfl
@[simp] theorem resetRegisters_resF1 (s : State) : (resetRegisters s).resF1 = 0 := rfl
@[simp] theorem resetRegisters_resF2 (s : State) : (resetRegisters s).resF2 = 0 := rfl
@[simp] theorem resetRegisters_resCsumCalc (s : State) : (resetRegisters s).resCsumCalc = 0 := rfl
@[simp] theorem resetRegisters_resCsumRx (s : State) : (resetRegisters s).resCsumRx = 0 := rfl
@[simp] theorem resetRegisters_stimulus (s : State) : (resetRegisters s).stimulus = s.stimulus := rfl
@[simp] theorem resetRegisters_cycle (s : State) : (resetRegisters s).cycle = s.cycle := rfl
@[simp] theorem resetRegisters_rxLog (s : State) : (resetRegisters s).rxLog = s.rxLog := rfl
@[simp] theorem resetRegisters_txLog (s : State) : (resetRegisters s).txLog = s.txLog := rfl
@[simp] theorem resetRegisters_frameWritten (s : State) : (resetRegisters s).frameWritten = Vector.replicate 12 false := rfl
@[simp] theorem resetRegisters_outcomeCount (s : State) : (resetRegisters s).outcomeCount = 0 := rfl

@[simp] theorem endCycle_st (s : State) : (endCycle s).st = s.st := rfl
@[simp] theorem endCycle_cmdIdx (s : State) : (endCycle s).cmdIdx = s.cmdIdx := rfl
@[simp] theorem endCycle_huntCnt (s : State) : (endCycle s).huntCnt = s.huntCnt := rfl
@[simp] theorem endCycle_payCnt (s : State) : (endCycle s).payCnt = s.payCnt := rfl
@[simp] theorem endCycle_frame (s : State) : (endCycle s).frame = s.frame := rfl
@[simp] theorem endCycle_rdStartQ (s : State) : (endCycle s).rdStartQ = s.rdStartQ := rfl
@[simp] theorem endCycle_resStatus (s : State) : (endCycle s).resStatus = s.resStatus := rfl
@[simp] theorem endCycle_resF0 (s : State) : (endCycle s).resF0 = s.resF0 := rfl
@[simp] theorem endCycle_resF1 (s : State) : (endCycle s).resF1 = s.resF1 := rfl
@[simp] theorem endCycle_resF2 (s : State) : (endCycle s).resF2 = s.resF2 := rfl
@[simp] theorem endCycle_resCsumCalc (s : State) : (endCycle s).resCsumCalc = s.resCsumCalc := rfl
@[simp] theorem endCycle_resCsumRx (s : State) : (endCycle s).resCsumRx = s.resCsumRx := rfl
@[simp] theorem endCycle_stimulus (s : State) : (endCycle s).stimulus = s.stimulus.tail := rfl
@[simp] theorem endCycle_cycle (s : State) : (endCycle s).cycle = s.cycle + 1 := rfl
@[simp] theorem endCycle_rxLog (s : State) : (endCycle s).rxLog = s.rxLog := rfl
@[simp] theorem endCycle_txLog (s : State) : (endCycle s).txLog = s.txLog := rfl
@[simp] theorem endCycle_frameWritten (s : State) : (endCycle s).frameWritten = s.frameWritten := rfl
@[simp] theorem endCycle_outcomeCount (s : State) : (endCycle s).outcomeCount = s.outcomeCount := rfl

@[simp] theorem placeStepWord_st (w : StepWord) (s : State) : (placeStepWord w s).st = SeqState.ofCode (fieldSt w) := rfl
@[simp] theorem placeStepWord_cmdIdx (w : StepWord) (s : State) : (placeStepWord w s).cmdIdx = s.cmdIdx := rfl
@[simp] theorem placeStepWord_huntCnt (w : StepWord) (s : State) : (placeStepWord w s).huntCnt = s.huntCnt := rfl
@[simp] theorem placeStepWord_payCnt (w : StepWord) (s : State) : (placeStepWord w s).payCnt = s.payCnt := rfl
@[simp] theorem placeStepWord_frame (w : StepWord) (s : State) : (placeStepWord w s).frame = s.frame := rfl
@[simp] theorem placeStepWord_rdStartQ (w : StepWord) (s : State) : (placeStepWord w s).rdStartQ = s.rdStartQ := rfl
@[simp] theorem placeStepWord_resStatus (w : StepWord) (s : State) : (placeStepWord w s).resStatus = s.resStatus := rfl
@[simp] theorem placeStepWord_resF0 (w : StepWord) (s : State) : (placeStepWord w s).resF0 = s.resF0 := rfl
@[simp] theorem placeStepWord_resF1 (w : StepWord) (s : State) : (placeStepWord w s).resF1 = s.resF1 := rfl
@[simp] theorem placeStepWord_resF2 (w : StepWord) (s : State) : (placeStepWord w s).resF2 = s.resF2 := rfl
@[simp] theorem placeStepWord_resCsumCalc (w : StepWord) (s : State) : (placeStepWord w s).resCsumCalc = s.resCsumCalc := rfl
@[simp] theorem placeStepWord_resCsumRx (w : StepWord) (s : State) : (placeStepWord w s).resCsumRx = s.resCsumRx := rfl
@[simp] theorem placeStepWord_stimulus (w : StepWord) (s : State) : (placeStepWord w s).stimulus = inputsOfWord w :: s.stimulus.tail := rfl
@[simp] theorem placeStepWord_cycle (w : StepWord) (s : State) : (placeStepWord w s).cycle = s.cycle := rfl
@[simp] theorem placeStepWord_rxLog (w : StepWord) (s : State) : (placeStepWord w s).rxLog = s.rxLog := rfl
@[simp] theorem placeStepWord_txLog (w : StepWord) (s : State) : (placeStepWord w s).txLog = s.txLog := rfl
@[simp] theorem placeStepWord_frameWritten (w : StepWord) (s : State) : (placeStepWord w s).frameWritten = s.frameWritten := rfl
@[simp] theorem placeStepWord_outcomeCount (w : StepWord) (s : State) : (placeStepWord w s).outcomeCount = s.outcomeCount := rfl

end Sys2Proof.Machine
end

