-- ==== Sys2Proof/Laws/Ops.lean ====
section
/-! SUPPORT. One lemma per shared operation that says once what it can do; later proofs cite these and do not unfold the operation. -/

namespace Sys2Proof.Machine

/-! ### Reading a frame register after a write -/

theorem storeFrame_same (k : Fin 12) (b : Byte) (s : State) : (storeFrame k b s).frame[k] = b := by
  simp

theorem storeFrame_other (k j : Fin 12) (b : Byte) (s : State) (h : k ≠ j) :
    (storeFrame k b s).frame[j] = s.frame[j] := by
  have hv : k.val ≠ j.val := fun e => h (Fin.ext e)
  simp [hv]

theorem storeFrame_written_same (k : Fin 12) (b : Byte) (s : State) : (storeFrame k b s).frameWritten[k] = true := by
  simp

theorem storeFrame_written_mono (k j : Fin 12) (b : Byte) (s : State) (h : s.frameWritten[j] = true) :
    (storeFrame k b s).frameWritten[j] = true := by
  simp only [storeFrame_frameWritten, Fin.getElem_fin, Vector.getElem_set]
  split
  · rfl
  · simpa using h

/-! ### One failed hunt attempt -/

/-- What a failed hunt attempt does (R106, R107): the tenth ends the poll, an earlier one is counted. -/
theorem failAttempt_cases (s : State) :
    (s.huntCnt.toNat = 9 ∧ failAttempt s = finishFailed .headerLost { s with huntCnt := 10 })
    ∨ (s.huntCnt.toNat ≠ 9 ∧ failAttempt s = startRead { s with huntCnt := s.huntCnt + 1 }) := by
  by_cases h : s.huntCnt.toNat = 9
  · refine Or.inl ⟨h, ?_⟩
    simp [failAttempt, huntBudget, h]
  · refine Or.inr ⟨h, ?_⟩
    simp [failAttempt, huntBudget, h]

/-! ### The place of the next payload byte -/

theorem payloadOffset_eq_some {s : State} (h : s.payCnt.toNat ≤ 9) :
    payloadOffset s = some ⟨2 + s.payCnt.toNat, by omega⟩ := by
  unfold payloadOffset
  rw [dif_pos (by omega)]

theorem payloadOffset_eq_none {s : State} (h : 10 ≤ s.payCnt.toNat) : payloadOffset s = none := by
  unfold payloadOffset
  rw [dif_neg (by omega)]

/-! ### The command byte -/

/-- In CMD with `cmd_idx` 0 to 6 the byte offered is the entry of `CMD_ROM` (R34). -/
theorem cmdByte_eq {s : State} (h : s.cmdIdx.toNat < cmdRom.length) : s.cmdByte = cmdRom[s.cmdIdx.toNat] := by
  unfold State.cmdByte
  rw [List.getElem?_eq_getElem h]

theorem cmdRom_length : cmdRom.length = 7 := rfl

/-! ### The meanings, as exec calls them -/

/-- A command byte (R104): sent and counted; the seventh begins the first hunt attempt. -/
theorem execCmdSend_cases (s : State) :
    (s.cmdIdx.toNat = 6 ∧ execCmdSend s = .next (startRead { txPut s.cmdByte (beginRule s) with
        cmdIdx := s.cmdIdx + 1, huntCnt := 0, st := .hunt }))
    ∨ (s.cmdIdx.toNat ≠ 6 ∧ execCmdSend s = .next { txPut s.cmdByte (beginRule s) with cmdIdx := s.cmdIdx + 1 }) := by
  unfold execCmdSend
  by_cases h : s.cmdIdx.toNat = 6
  · exact Or.inl ⟨h, if_pos h⟩
  · exact Or.inr ⟨h, if_neg h⟩

/-- A payload byte (R113): stored; the tenth leads to CHECK; an earlier one with a timeout ends the poll. -/
theorem execPayByte_cases (d : Byte) (t : Bool) (s : State) (h : s.payCnt.toNat ≤ 9) :
    (s.payCnt.toNat = 9 ∧ execPayByte d t s = .next { storeFrame ⟨2 + s.payCnt.toNat, by omega⟩ d (rxTake d (beginRule s)) with
        payCnt := s.payCnt + 1, st := .check })
    ∨ (s.payCnt.toNat < 9 ∧ t = true ∧ execPayByte d t s = .next (finishFailed .transportIoError
        { storeFrame ⟨2 + s.payCnt.toNat, by omega⟩ d (rxTake d (beginRule s)) with payCnt := s.payCnt + 1 }))
    ∨ (s.payCnt.toNat < 9 ∧ t = false ∧ execPayByte d t s = .next
        { storeFrame ⟨2 + s.payCnt.toNat, by omega⟩ d (rxTake d (beginRule s)) with payCnt := s.payCnt + 1 }) := by
  unfold execPayByte
  rw [payloadOffset_eq_some h]
  by_cases h9 : s.payCnt.toNat = 9
  · left; simp [payloadLen, h9]
  · right
    have hlt : s.payCnt.toNat < 9 := by omega
    cases t
    · right; simp [payloadLen, h9, hlt]
    · left; simp [payloadLen, h9, hlt]

theorem execPayByte_fault (d : Byte) (t : Bool) (s : State) (h : 10 ≤ s.payCnt.toNat) :
    execPayByte d t s = .fault (.frameOffset (2 + s.payCnt.toNat)) := by
  unfold execPayByte
  rw [payloadOffset_eq_none h]

/-- Every meaning but PAY_BYTE's ends in a next state; PAY_BYTE's does when the byte has a place. -/
theorem exec_next_of_place (i : Instr) (s : State) (h : s.payCnt.toNat ≤ 9) : ∃ t, exec i s = .next t := by
  cases i
  case payByte d t r l s' =>
    rcases execPayByte_cases d t s h with ⟨_, e⟩ | ⟨_, _, e⟩ | ⟨_, _, e⟩ <;> exact ⟨_, e⟩
  case cmdSend => simp only [exec, execCmdSend]; split <;> exact ⟨_, rfl⟩
  case checkEval => simp only [exec, execCheckEval]; split <;> exact ⟨_, rfl⟩
  all_goals exact ⟨_, rfl⟩

/-- No meaning refuses: every row has one, and the only stop is PAY_BYTE's. -/
theorem exec_ne_refused (i : Instr) (s : State) (r : Refusal) : exec i s ≠ .refused r := by
  intro h
  by_cases hp : s.payCnt.toNat ≤ 9
  · obtain ⟨t, e⟩ := exec_next_of_place i s hp
    rw [e] at h
    cases h
  · cases i with
    | cmdSend d t v l b => simp only [exec, execCmdSend] at h; split at h <;> cases h
    | payByte d t r l b => rw [exec, execPayByte_fault d t s (by omega)] at h; cases h
    | checkEval d t v r l b => simp only [exec, execCheckEval] at h; split at h <;> cases h
    | _ => cases h

/-- An outcome with the environment's plan of inputs replaced. -/
def withStimulus (l : List Inputs) : Host.Outcome State Fault Refusal → Host.Outcome State Fault Refusal
  | .next s => .next { s with stimulus := l }
  | .fault r => .fault r
  | .refused r => .refused r

theorem failAttempt_withStimulus (s : State) (l : List Inputs) :
    failAttempt { s with stimulus := l } = { failAttempt s with stimulus := l } := by
  rcases failAttempt_cases s with ⟨h, e⟩ | ⟨h, e⟩ <;>
    rcases failAttempt_cases { s with stimulus := l } with ⟨h', e'⟩ | ⟨h', e'⟩
  · rw [e, e']; rfl
  · exact absurd h h'
  · exact absurd h' h
  · rw [e, e']; rfl

/-- No meaning reads or writes the environment's plan of inputs: it runs alike under every plan. -/
theorem exec_withStimulus (i : Instr) (s : State) (l : List Inputs) :
    exec i { s with stimulus := l } = withStimulus l (exec i s) := by
  cases i
  case cmdSend => simp only [exec, execCmdSend]; split <;> rfl
  case huntDiscard d t r l' b =>
    exact congrArg Host.Outcome.next (failAttempt_withStimulus (rxTake d (beginRule s)) l)
  case huntTimeout d r l' b =>
    exact congrArg Host.Outcome.next (failAttempt_withStimulus (beginRule s) l)
  case payByte d t r l' b =>
    by_cases h : s.payCnt.toNat ≤ 9
    · have e1 := payloadOffset_eq_some (s := s) h
      have e2 := payloadOffset_eq_some (s := { s with stimulus := l }) h
      simp only [exec, execPayByte, e1, e2]
      repeat' split
      all_goals rfl
    · have h10 : 10 ≤ s.payCnt.toNat := by omega
      have e1 := execPayByte_fault d t s h10
      have e2 := execPayByte_fault d t { s with stimulus := l } h10
      simp only [exec, e1, e2, withStimulus]
  case checkEval => simp only [exec, execCheckEval]; split <;> rfl
  all_goals rfl

end Sys2Proof.Machine
end

