-- ==== Sys2Proof/Laws/PerInstr.lean ====
section
/-! SUPPORT. Statements about every instruction as syntax, one lemma per constructor. -/

namespace Sys2Proof.Laws.RowMatch

/-- The mask and the match of an instruction's row (30_encoding.md R74). -/
def rowBits : Instr → StepWord × StepWord
  | .idleWait _ _ _ _ _ => (0x000F, 0x0000)
  | .idleNolink _ _ _ _ => (0x001F, 0x0008)
  | .idleStart _ _ _ _ => (0x001F, 0x0018)
  | .cmdStall _ _ _ _ _ => (0x0027, 0x0001)
  | .cmdSend _ _ _ _ _ => (0x0027, 0x0021)
  | .huntMatch _ _ _ _ => (0xFF47, 0x4242)
  | .huntDiscard _ _ _ _ _ => (0x0047, 0x0042)
  | .huntTimeout _ _ _ _ => (0x00C7, 0x0082)
  | .huntWait _ _ _ _ => (0x00C7, 0x0002)
  | .hdr1Match _ _ _ _ => (0xFF47, 0x4D43)
  | .hdr1Mismatch _ _ _ _ _ => (0x0047, 0x0043)
  | .hdr1Timeout _ _ _ _ => (0x00C7, 0x0083)
  | .hdr1Wait _ _ _ _ => (0x00C7, 0x0003)
  | .payByte _ _ _ _ _ => (0x0047, 0x0044)
  | .payTimeout _ _ _ _ => (0x00C7, 0x0084)
  | .payWait _ _ _ _ => (0x00C7, 0x0004)
  | .checkEval _ _ _ _ _ _ => (0x0007, 0x0005)
  | .doneRet _ _ _ _ _ _ => (0x0007, 0x0006)
  | .illegalState _ _ _ _ _ _ => (0x0007, 0x0007)

/-- The word an instruction encodes to lies in its own row of the table. -/
def Statement (i : Instr) : Prop := encode i &&& (rowBits i).1 = (rowBits i).2

/-- A word whose high byte a row does not look at. -/
theorem low_match (d : Byte) (t v r l s : Bool) (st : BitVec 3) (m p : StepWord) (ml pl : BitVec 8)
    (hm : m = (0 : BitVec 8) ++ ml) (hp : p = (0 : BitVec 8) ++ pl) (h : packLow t v r l s st &&& ml = pl) :
    packWord d t v r l s st &&& m = p := by
  have e := hits_any_data "" m p ml pl (fun _ => .idleWait 0 false false false false) hm hp d t v r l s st
  rw [h] at e
  simpa [Row.hits] using e

theorem idleWait (d : Byte) (t v r l : Bool) : Statement (.idleWait d t v r l) :=
  low_match d t v r l false 0 _ _ 0x0F 0x00 rfl rfl (by revert t v r l; decide)
theorem idleNolink (d : Byte) (t v r : Bool) : Statement (.idleNolink d t v r) :=
  low_match d t v r false true 0 _ _ 0x1F 0x08 rfl rfl (by revert t v r; decide)
theorem idleStart (d : Byte) (t v r : Bool) : Statement (.idleStart d t v r) :=
  low_match d t v r true true 0 _ _ 0x1F 0x18 rfl rfl (by revert t v r; decide)
theorem cmdStall (d : Byte) (t v l s : Bool) : Statement (.cmdStall d t v l s) :=
  low_match d t v false l s 1 _ _ 0x27 0x01 rfl rfl (by revert t v l s; decide)
theorem cmdSend (d : Byte) (t v l s : Bool) : Statement (.cmdSend d t v l s) :=
  low_match d t v true l s 1 _ _ 0x27 0x21 rfl rfl (by revert t v l s; decide)
theorem huntMatch (t r l s : Bool) : Statement (.huntMatch t r l s) := by
  revert t r l s; unfold Statement; decide
theorem huntDiscard (d : Byte) (t r l s : Bool) : Statement (.huntDiscard d t r l s) :=
  low_match d t true r l s 2 _ _ 0x47 0x42 rfl rfl (by revert t r l s; decide)
theorem huntTimeout (d : Byte) (r l s : Bool) : Statement (.huntTimeout d r l s) :=
  low_match d true false r l s 2 _ _ 0xC7 0x82 rfl rfl (by revert r l s; decide)
theorem huntWait (d : Byte) (r l s : Bool) : Statement (.huntWait d r l s) :=
  low_match d false false r l s 2 _ _ 0xC7 0x02 rfl rfl (by revert r l s; decide)
theorem hdr1Match (t r l s : Bool) : Statement (.hdr1Match t r l s) := by
  revert t r l s; unfold Statement; decide
theorem hdr1Mismatch (d : Byte) (t r l s : Bool) : Statement (.hdr1Mismatch d t r l s) :=
  low_match d t true r l s 3 _ _ 0x47 0x43 rfl rfl (by revert t r l s; decide)
theorem hdr1Timeout (d : Byte) (r l s : Bool) : Statement (.hdr1Timeout d r l s) :=
  low_match d true false r l s 3 _ _ 0xC7 0x83 rfl rfl (by revert r l s; decide)
theorem hdr1Wait (d : Byte) (r l s : Bool) : Statement (.hdr1Wait d r l s) :=
  low_match d false false r l s 3 _ _ 0xC7 0x03 rfl rfl (by revert r l s; decide)
theorem payByte (d : Byte) (t r l s : Bool) : Statement (.payByte d t r l s) :=
  low_match d t true r l s 4 _ _ 0x47 0x44 rfl rfl (by revert t r l s; decide)
theorem payTimeout (d : Byte) (r l s : Bool) : Statement (.payTimeout d r l s) :=
  low_match d true false r l s 4 _ _ 0xC7 0x84 rfl rfl (by revert r l s; decide)
theorem payWait (d : Byte) (r l s : Bool) : Statement (.payWait d r l s) :=
  low_match d false false r l s 4 _ _ 0xC7 0x04 rfl rfl (by revert r l s; decide)
theorem checkEval (d : Byte) (t v r l s : Bool) : Statement (.checkEval d t v r l s) :=
  low_match d t v r l s 5 _ _ 0x07 0x05 rfl rfl (by revert t v r l s; decide)
theorem doneRet (d : Byte) (t v r l s : Bool) : Statement (.doneRet d t v r l s) :=
  low_match d t v r l s 6 _ _ 0x07 0x06 rfl rfl (by revert t v r l s; decide)
theorem illegalState (d : Byte) (t v r l s : Bool) : Statement (.illegalState d t v r l s) :=
  low_match d t v r l s 7 _ _ 0x07 0x07 rfl rfl (by revert t v r l s; decide)

end Sys2Proof.Laws.RowMatch
end

