-- ==== Sys2Proof/Laws/Step.lean ====
section
/-! SUPPORT. What one step can do, said once: the reset action, or the rule that state and inputs select, and then the end of the cycle. -/

namespace Sys2Proof.Machine

theorem closeCycle_eq_next {o : Host.Outcome State Fault Refusal} {t : State} :
    closeCycle o = .next t ↔ ∃ u, o = .next u ∧ t = endCycle u := by
  cases o <;> simp [closeCycle, eq_comm]

theorem step_of_rst {s : State} (h : s.inputNow.rst = true) :
    step s = .next (endCycle (resetCycle s.inputNow s)) := by
  simp [step, h]

theorem step_of_not_rst {s : State} (h : s.inputNow.rst = false) :
    step s = closeCycle (exec (selected s.st s.inputNow) s) := by
  simp [step, h, decode_stepWord]

/-- What `withFetchWord` promises: the next cycle is no reset cycle and its step word is exactly `w`. -/
theorem withFetchWord_places (s : State) (w : StepWord) :
    stepWord (s.withFetchWord 16 w.toNat).st (s.withFetchWord 16 w.toNat).inputNow = w
    ∧ (s.withFetchWord 16 w.toNat).inputNow.rst = false := by
  have e : BitVec.ofNat 16 (w.toNat % 2 ^ 16) = w := BitVec.eq_of_toNat_eq (by simp [Nat.mod_eq_of_lt w.isLt])
  refine ⟨?_, rfl⟩
  rw [State.withFetchWord, e]
  simp only [placeStepWord, State.inputNow, stepWord, inputsOfWord, code_ofCode]
  exact packWord_fields w

/-- The inversion of a step (R13): what a next state can be. -/
theorem step_next_cases {s t : State} (h : step s = .next t) :
    (s.inputNow.rst = true ∧ t = endCycle (resetCycle s.inputNow s))
    ∨ (s.inputNow.rst = false ∧ ∃ u, exec (selected s.st s.inputNow) s = .next u ∧ t = endCycle u) := by
  cases hr : s.inputNow.rst
  · rw [step_of_not_rst hr, closeCycle_eq_next] at h
    exact Or.inr ⟨rfl, h⟩
  · rw [step_of_rst hr] at h
    exact Or.inl ⟨rfl, by injection h with h; exact h.symm⟩

/-- The instruction a state selects, by state: the sequencer state alone decides the family of rules. -/
theorem selected_idle (inp : Inputs) : selected .idle inp =
    if inp.start then
      if inp.linkOpen then .idleStart inp.rxData inp.rdTimeout inp.rxValid inp.txReady
      else .idleNolink inp.rxData inp.rdTimeout inp.rxValid inp.txReady
    else .idleWait inp.rxData inp.rdTimeout inp.rxValid inp.txReady inp.linkOpen := rfl

/-- A cycle with planned inputs samples the first of them (R20). -/
@[simp] theorem inputNow_cons (s : State) (inp : Inputs) (rest : List Inputs) (h : s.stimulus = inp :: rest) :
    s.inputNow = inp := by
  simp [State.inputNow, h]

/-- No meaning writes the environment's plan. -/
theorem exec_keeps_stimulus {i : Instr} {s u : State} (h : exec i s = .next u) : u.stimulus = s.stimulus := by
  have e := exec_withStimulus i s s.stimulus
  rw [show ({ s with stimulus := s.stimulus } : State) = s from rfl, h] at e
  injection e with e
  rw [e]

/-- A planned cycle without reset: the selected rule, and the rest of the plan. -/
theorem step_planned {s u : State} {inp : Inputs} {rest : List Inputs} (hs : s.stimulus = inp :: rest)
    (hr : inp.rst = false) (hu : exec (selected s.st inp) s = .next u) :
    step s = .next { u with stimulus := rest, cycle := u.cycle + 1 } := by
  have hi : s.inputNow = inp := inputNow_cons s inp rest hs
  rw [step_of_not_rst (by rw [hi]; exact hr), hi, hu, closeCycle]
  have ht := exec_keeps_stimulus hu
  rw [hs] at ht
  simp [endCycle, ht]

/-- The step of a planned cycle does not depend on the inputs but through the rule they select. -/
theorem step_planned_eq (s : State) (inp : Inputs) (rest : List Inputs) (hr : inp.rst = false) :
    step { s with stimulus := inp :: rest }
      = closeCycle (withStimulus (inp :: rest) (exec (selected s.st inp) s)) := by
  rw [step_of_not_rst (by exact hr)]
  exact congrArg closeCycle (exec_withStimulus (selected s.st inp) s (inp :: rest))

theorem runFor_zero (s : State) : runFor 0 s = .next s := rfl

/-- `k + 1` steps are one step and `k` steps more. -/
theorem runFor_succ_of_step {s t : State} (k : Nat) (h : step s = .next t) : runFor (k + 1) s = runFor k t := by
  rw [runFor, h]

/-- One more step of any machine's run, by the outcome of its first step. -/
theorem core_run_succ (M : Host.Core) (k : Nat) (s : M.State) :
    (∀ t, M.step s = .next t → M.run (k + 1) s = M.run k t)
    ∧ (∀ r, M.step s = .fault r → M.run (k + 1) s = .fault r)
    ∧ (∀ r, M.step s = .refused r → M.run (k + 1) s = .refused r) := by
  refine ⟨?_, ?_, ?_⟩ <;> intro x h <;> rw [Host.Core.run, h]

/-- runFor is the host's own run of the machine. -/
theorem runFor_eq_run (n : Nat) (s : State) : runFor n s = Host.Core.run Sys2Proof.core n s := by
  induction n generalizing s with
  | zero => rfl
  | succ n ih =>
    obtain ⟨hn, hf, hr⟩ := core_run_succ Sys2Proof.core n s
    rw [runFor]
    cases hs : step s with
    | next t => exact (ih t).trans (hn t hs).symm
    | fault r => exact (hf r hs).symm
    | refused r => exact (hr r hs).symm

/-- Runs follow each other. -/
theorem runFor_add {s t : State} (j k : Nat) (h : runFor j s = .next t) : runFor (j + k) s = runFor k t := by
  induction j generalizing s with
  | zero =>
    have e : s = t := by injection h
    rw [Nat.zero_add, e]
  | succ j ih =>
    cases hs : step s with
    | next u =>
      rw [runFor_succ_of_step j hs] at h
      rw [Nat.succ_add, runFor_succ_of_step (j + k) hs]
      exact ih h
    | fault r => rw [runFor, hs] at h; cases h
    | refused r => rw [runFor, hs] at h; cases h

end Sys2Proof.Machine
end

