-- ==== Sys2Proof/Laws/Transition.lean ====
section
/-! SUPPORT. Every transition of a cycle without reset, said once: one case per rule and branch, with the guard on state and inputs and the state the rule leaves. Invariants are proved by cases over it. -/

namespace Sys2Proof.Machine

/-- `Transition inp s u`: in a cycle without reset with inputs `inp`, the rule selected in `s` leaves `u`
(before the end of the cycle). -/
inductive Transition (inp : Inputs) (s : State) : State → Prop where
  | idleWait (hst : s.st = .idle) (hs : inp.start = false) : Transition inp s (beginRule s)
  | idleNolink (hst : s.st = .idle) (hs : inp.start = true) (hl : inp.linkOpen = false) :
      Transition inp s (finishFailed .transportUnavailable (beginPoll (beginRule s)))
  | idleStart (hst : s.st = .idle) (hs : inp.start = true) (hl : inp.linkOpen = true) :
      Transition inp s { clearResults (beginPoll (beginRule s)) with cmdIdx := 0, st := .cmd }
  | cmdStall (hst : s.st = .cmd) (hr : inp.txReady = false) : Transition inp s (beginRule s)
  | cmdSendLast (hst : s.st = .cmd) (hr : inp.txReady = true) (h6 : s.cmdIdx.toNat = 6) :
      Transition inp s (startRead { txPut s.cmdByte (beginRule s) with cmdIdx := s.cmdIdx + 1, huntCnt := 0, st := .hunt })
  | cmdSend (hst : s.st = .cmd) (hr : inp.txReady = true) (h6 : s.cmdIdx.toNat ≠ 6) :
      Transition inp s { txPut s.cmdByte (beginRule s) with cmdIdx := s.cmdIdx + 1 }
  | huntMatch (hst : s.st = .hunt) (hv : inp.rxValid = true) (hd : inp.rxData = 0x42) :
      Transition inp s { startRead (storeFrame 0 0x42 (rxTake 0x42 s)) with st := .hdr1 }
  | huntDiscardLast (hst : s.st = .hunt) (hv : inp.rxValid = true) (hd : inp.rxData ≠ 0x42) (h9 : s.huntCnt.toNat = 9) :
      Transition inp s (finishFailed .headerLost { rxTake inp.rxData (beginRule s) with huntCnt := 10 })
  | huntDiscard (hst : s.st = .hunt) (hv : inp.rxValid = true) (hd : inp.rxData ≠ 0x42) (h9 : s.huntCnt.toNat ≠ 9) :
      Transition inp s (startRead { rxTake inp.rxData (beginRule s) with huntCnt := s.huntCnt + 1 })
  | huntTimeoutLast (hst : s.st = .hunt) (hv : inp.rxValid = false) (ht : inp.rdTimeout = true) (h9 : s.huntCnt.toNat = 9) :
      Transition inp s (finishFailed .headerLost { beginRule s with huntCnt := 10 })
  | huntTimeout (hst : s.st = .hunt) (hv : inp.rxValid = false) (ht : inp.rdTimeout = true) (h9 : s.huntCnt.toNat ≠ 9) :
      Transition inp s (startRead { beginRule s with huntCnt := s.huntCnt + 1 })
  | huntWait (hst : s.st = .hunt) (hv : inp.rxValid = false) (ht : inp.rdTimeout = false) : Transition inp s (beginRule s)
  | hdr1Match (hst : s.st = .hdr1) (hv : inp.rxValid = true) (hd : inp.rxData = 0x4D) :
      Transition inp s { startRead (storeFrame 1 0x4D (rxTake 0x4D s)) with payCnt := 0, st := .payload }
  | hdr1Mismatch (hst : s.st = .hdr1) (hv : inp.rxValid = true) (hd : inp.rxData ≠ 0x4D) :
      Transition inp s (finishFailed .secondHeaderMismatch (rxTake inp.rxData (beginRule s)))
  | hdr1Timeout (hst : s.st = .hdr1) (hv : inp.rxValid = false) (ht : inp.rdTimeout = true) :
      Transition inp s (finishFailed .secondHeaderMismatch (beginRule s))
  | hdr1Wait (hst : s.st = .hdr1) (hv : inp.rxValid = false) (ht : inp.rdTimeout = false) : Transition inp s (beginRule s)
  | payByteLast (hst : s.st = .payload) (hv : inp.rxValid = true) (k : Fin 12) (hk : k.val = 2 + s.payCnt.toNat)
      (h9 : s.payCnt.toNat = 9) :
      Transition inp s { storeFrame k inp.rxData (rxTake inp.rxData (beginRule s)) with payCnt := s.payCnt + 1, st := .check }
  | payByteShort (hst : s.st = .payload) (hv : inp.rxValid = true) (k : Fin 12) (hk : k.val = 2 + s.payCnt.toNat)
      (h9 : s.payCnt.toNat < 9) (ht : inp.rdTimeout = true) :
      Transition inp s (finishFailed .transportIoError
        { storeFrame k inp.rxData (rxTake inp.rxData (beginRule s)) with payCnt := s.payCnt + 1 })
  | payByte (hst : s.st = .payload) (hv : inp.rxValid = true) (k : Fin 12) (hk : k.val = 2 + s.payCnt.toNat)
      (h9 : s.payCnt.toNat < 9) (ht : inp.rdTimeout = false) :
      Transition inp s { storeFrame k inp.rxData (rxTake inp.rxData (beginRule s)) with payCnt := s.payCnt + 1 }
  | payTimeout (hst : s.st = .payload) (hv : inp.rxValid = false) (ht : inp.rdTimeout = true) :
      Transition inp s (finishFailed .transportIoError (beginRule s))
  | payWait (hst : s.st = .payload) (hv : inp.rxValid = false) (ht : inp.rdTimeout = false) : Transition inp s (beginRule s)
  | checkPass (hst : s.st = .check) (hc : csum16 s.frame = csrx s.frame) :
      Transition inp s (finish .success (extract3 (window s.frame)).1 (extract3 (window s.frame)).2.1
        (extract3 (window s.frame)).2.2 (csum16 s.frame) (csrx s.frame) (beginRule s))
  | checkFail (hst : s.st = .check) (hc : csum16 s.frame ≠ csrx s.frame) :
      Transition inp s (finish .checksumError 0 0 0 (csum16 s.frame) (csrx s.frame) (beginRule s))
  | doneRet (hst : s.st = .done) : Transition inp s (returnToIdle (beginRule s))
  | illegalState (hst : s.st = .unused7) : Transition inp s { beginRule s with st := .idle }

theorem execCheckEval_cases (s : State) :
    (csum16 s.frame = csrx s.frame ∧ execCheckEval s = .next (finish .success (extract3 (window s.frame)).1
        (extract3 (window s.frame)).2.1 (extract3 (window s.frame)).2.2 (csum16 s.frame) (csrx s.frame) (beginRule s)))
    ∨ (csum16 s.frame ≠ csrx s.frame
      ∧ execCheckEval s = .next (finish .checksumError 0 0 0 (csum16 s.frame) (csrx s.frame) (beginRule s))) := by
  unfold execCheckEval csok
  by_cases h : csum16 s.frame = csrx s.frame
  · exact Or.inl ⟨h, if_pos (by simp [h])⟩
  · exact Or.inr ⟨h, if_neg (by simp [h])⟩

/-- What the selected rule does, inverted. -/
theorem transition_of_exec {inp : Inputs} {s u : State} (h : exec (selected s.st inp) s = .next u) :
    Transition inp s u := by
  cases hst : s.st <;> rw [hst] at h <;> simp only [selected] at h
  case idle =>
    split at h
    next hs =>
      split at h
      next hl => injection h with h; subst h; exact .idleStart hst hs hl
      next hl => injection h with h; subst h; exact .idleNolink hst hs (by simpa using hl)
    next hs => injection h with h; subst h; exact .idleWait hst (by simpa using hs)
  case cmd =>
    split at h
    next hr =>
      rcases execCmdSend_cases s with ⟨h6, e⟩ | ⟨h6, e⟩ <;> simp only [exec] at h <;> rw [e] at h <;> injection h with h <;> subst h
      · exact .cmdSendLast hst hr h6
      · exact .cmdSend hst hr h6
    next hr => injection h with h; subst h; exact .cmdStall hst (by simpa using hr)
  case hunt =>
    split at h
    next hv =>
      split at h
      next hd => injection h with h; subst h; exact .huntMatch hst hv hd
      next hd =>
        simp only [exec, execHuntDiscard] at h
        rcases failAttempt_cases (rxTake inp.rxData (beginRule s)) with ⟨h9, e⟩ | ⟨h9, e⟩ <;> rw [e] at h <;> injection h with h <;> subst h
        · exact .huntDiscardLast hst hv hd h9
        · exact .huntDiscard hst hv hd h9
    next hv =>
      split at h
      next ht =>
        simp only [exec, execHuntTimeout] at h
        rcases failAttempt_cases (beginRule s) with ⟨h9, e⟩ | ⟨h9, e⟩ <;> rw [e] at h <;> injection h with h <;> subst h
        · exact .huntTimeoutLast hst (by simpa using hv) ht h9
        · exact .huntTimeout hst (by simpa using hv) ht h9
      next ht => injection h with h; subst h; exact .huntWait hst (by simpa using hv) (by simpa using ht)
  case hdr1 =>
    split at h
    next hv =>
      split at h
      next hd => injection h with h; subst h; exact .hdr1Match hst hv hd
      next hd => injection h with h; subst h; exact .hdr1Mismatch hst hv hd
    next hv =>
      split at h
      next ht => injection h with h; subst h; exact .hdr1Timeout hst (by simpa using hv) ht
      next ht => injection h with h; subst h; exact .hdr1Wait hst (by simpa using hv) (by simpa using ht)
  case payload =>
    split at h
    next hv =>
      simp only [exec] at h
      by_cases h9 : s.payCnt.toNat ≤ 9
      · rcases execPayByte_cases inp.rxData inp.rdTimeout s h9 with ⟨hc, e⟩ | ⟨hc, ht, e⟩ | ⟨hc, ht, e⟩ <;> rw [e] at h <;> injection h with h <;> subst h
        · exact .payByteLast hst hv _ rfl hc
        · exact .payByteShort hst hv _ rfl hc ht
        · exact .payByte hst hv _ rfl hc ht
      · rw [execPayByte_fault _ _ _ (by omega)] at h; cases h
    next hv =>
      split at h
      next ht => injection h with h; subst h; exact .payTimeout hst (by simpa using hv) ht
      next ht => injection h with h; subst h; exact .payWait hst (by simpa using hv) (by simpa using ht)
  case check =>
    simp only [exec] at h
    rcases execCheckEval_cases s with ⟨hc, e⟩ | ⟨hc, e⟩ <;> rw [e] at h <;> injection h with h <;> subst h
    · exact .checkPass hst hc
    · exact .checkFail hst hc
  case done => injection h with h; subst h; exact .doneRet hst
  case unused7 => injection h with h; subst h; exact .illegalState hst

/-- The inversion of a step: a reset cycle, or a transition, and then the end of the cycle (R13, R210). -/
theorem step_inversion {s t : State} (h : step s = .next t) :
    (s.inputNow.rst = true ∧ t = endCycle (resetCycle s.inputNow s))
    ∨ (s.inputNow.rst = false ∧ ∃ u, Transition s.inputNow s u ∧ t = endCycle u) := by
  rcases step_next_cases h with h | ⟨hr, u, hu, ht⟩
  · exact Or.inl h
  · exact Or.inr ⟨hr, u, transition_of_exec hu, ht⟩

end Sys2Proof.Machine
end

