-- ==== Sys2Proof/Tests/Slice0.lean ====
section
/-! SUPPORT. The model's own tests: ill-formed instructions, one written-out word per row, single steps with the values of 95_test_vectors.md, and for every statement with hypotheses a witness that meets them. -/

namespace Sys2Proof.Tests

open Sys2Proof Sys2Proof.Machine

/-! ### Well-formedness: the two rows that a row above them overlaps (R74) -/

theorem test_wf_refuses_discard_of_hdr0 : (Instr.huntDiscard 0x42 false false true false).wellFormed = false := by decide
theorem test_wf_refuses_mismatch_of_hdr1 : (Instr.hdr1Mismatch 0x4D false false true false).wellFormed = false := by decide
theorem test_wf_admits_discard_of_4d : (Instr.huntDiscard 0x4D false false true false).wellFormed = true := by decide
theorem test_wf_admits_mismatch_of_42 : (Instr.hdr1Mismatch 0x42 false false true false).wellFormed = true := by decide

/-! ### Decoding: one word per row, written out from its pattern (R74); bits `dddddddd t v r l s ststst` -/

theorem test_decode_idleWait : decode 0b0100001011110000#16 = .ok (.idleWait 0x42 true true true true) := rfl
theorem test_decode_idleNolink : decode 0b0000000100101000#16 = .ok (.idleNolink 0x01 false false true) := rfl
theorem test_decode_idleStart : decode 0b1000000010011000#16 = .ok (.idleStart 0x80 true false false) := rfl
theorem test_decode_cmdStall : decode 0b0000000001001001#16 = .ok (.cmdStall 0x00 false true false true) := rfl
theorem test_decode_cmdSend : decode 0b0000000000110001#16 = .ok (.cmdSend 0x00 false false true false) := rfl
theorem test_decode_huntMatch : decode 0b0100001001101010#16 = .ok (.huntMatch false true false true) := rfl
theorem test_decode_huntDiscard : decode 0b0100001111010010#16 = .ok (.huntDiscard 0x43 true false true false) := rfl
theorem test_decode_huntTimeout : decode 0b0100001010010010#16 = .ok (.huntTimeout 0x42 false true false) := rfl
theorem test_decode_huntWait : decode 0b0100001000001010#16 = .ok (.huntWait 0x42 false false true) := rfl
theorem test_decode_hdr1Match : decode 0b0100110111100011#16 = .ok (.hdr1Match true true false false) := rfl
theorem test_decode_hdr1Mismatch : decode 0b1100110101010011#16 = .ok (.hdr1Mismatch 0xCD false false true false) := rfl
theorem test_decode_hdr1Timeout : decode 0b0100110110001011#16 = .ok (.hdr1Timeout 0x4D false false true) := rfl
theorem test_decode_hdr1Wait : decode 0b0100110100100011#16 = .ok (.hdr1Wait 0x4D true false false) := rfl
theorem test_decode_payByte : decode 0b0100001001010100#16 = .ok (.payByte 0x42 false false true false) := rfl
theorem test_decode_payTimeout : decode 0b0000000010111100#16 = .ok (.payTimeout 0x00 true true true) := rfl
theorem test_decode_payWait : decode 0b1111111100010100#16 = .ok (.payWait 0xFF false true false) := rfl
theorem test_decode_checkEval : decode 0b0100001001011101#16 = .ok (.checkEval 0x42 false true false true true) := rfl
theorem test_decode_doneRet : decode 0b0000000010101110#16 = .ok (.doneRet 0x00 true false true false true) := rfl
theorem test_decode_illegalState : decode 0b0000000101010111#16 = .ok (.illegalState 0x01 false true false true false) := rfl

/-! ### Single steps (95_test_vectors.md 2.3) -/

/-- The next state of `o`, if there is one, meets `p`. -/
def meets (o : Host.Outcome State Fault Refusal) (p : State → Bool) : Bool :=
  match o with
  | .next t => p t
  | .fault _ => false
  | .refused _ => false

/-- One cycle of `s` with the step word `w`. -/
def cycleOf (s : State) (w : Nat) : Host.Outcome State Fault Refusal := step (s.withFetchWord 16 w)

/-- The sum part of a result. -/
def sums (t : State) : Value × Value := (t.resCsumCalc, t.resCsumRx)

/-- The value part of a result. -/
def values (t : State) : Value × Value × Value := (t.resF0, t.resF1, t.resF2)

/-- A state after a poll that failed its checksum: T5's registers, and values that must be cleared. -/
def old : State :=
  { State.reset with
    resStatus := 3, resF0 := 1, resF1 := 2, resF2 := 3, resCsumCalc := 0x024D, resCsumRx := 0x024C, rdStartQ := true }

/-- The frame of vector K2 (source scenario S2b). -/
def k2 : Frame := #v[0x42, 0x4D, 0, 0, 0, 0, 0x01, 0xF4, 0, 0xC8, 0x02, 0x4C]
/-- The frame of vector K3 (S2a). -/
def k3 : Frame := #v[0x42, 0x4D, 0, 0, 0, 0, 0x01, 0xF4, 0, 0xC8, 0x00, 0x02]
/-- The frame of vector K4. -/
def k4 : Frame := #v[0x42, 0x4D, 0xFF, 0xFF, 0xFF, 0xFF, 0xFF, 0xFF, 0xFF, 0xFF, 0x08, 0x87]
/-- The frame of vector K9. -/
def k9 : Frame := #v[0x42, 0x4D, 0, 0, 0, 0, 0xF4, 0x01, 0, 0xC8, 0x02, 0x4C]
/-- The frame of vector K10. -/
def k10 : Frame := #v[0x42, 0x4D, 0, 0, 0, 0x01, 0x01, 0xF4, 0, 0xC7, 0x02, 0x4C]
/-- The frame of vector K12. -/
def k12 : Frame := #v[0x42, 0x4D, 0, 0, 0, 0, 0, 0, 0, 0, 0x00, 0x8F]

/-- T2. -/
theorem test_idleWait_consumes_nothing :
    meets (cycleOf old 0x4250) (fun t => t.st == .idle && t.rxLog == [] && t.resStatus == 3) = true := by decide
/-- T3. -/
theorem test_idleWait_sends_nothing :
    meets (cycleOf old 0x00B0) (fun t => t.st == .idle && t.txLog == [] && !t.rdStartQ) = true := by decide
/-- T4. -/
theorem test_idleNolink :
    meets (cycleOf old 0x0008) (fun t => t.outputs.done && t.resStatus == 5 && sums t == (0, 0) && values t == (0, 0, 0)) = true := by decide
/-- T5. -/
theorem test_idleStart_clears :
    meets (cycleOf old 0x0018) (fun t => t.st == .cmd && t.resStatus == 7 && sums t == (0, 0) && values t == (0, 0, 0)) = true := by decide
/-- T6. -/
theorem test_idleStart_offers_first_byte :
    meets (cycleOf old 0x0038) (fun t => t.outputs.txValid && t.outputs.txData == 0x42 && t.txLog == []) = true := by decide
/-- T7. -/
theorem test_cmdStall_keeps_the_byte :
    meets (cycleOf { old with cmdIdx := 3 } 0x0011) (fun t => t.st == .cmd && t.cmdIdx == 3 && t.outputs.txData == 0x00) = true := by decide
/-- T8. -/
theorem test_cmdStall_ignores_start :
    meets (cycleOf { old with cmdIdx := 0 } 0x0019) (fun t => t.st == .cmd && t.resStatus == 3 && t.txLog == []) = true := by decide
/-- T11. -/
theorem test_cmdSend_last :
    meets (cycleOf { old with cmdIdx := 6, huntCnt := 10 } 0x0031)
      (fun t => t.st == .hunt && t.txLog == [0x72] && t.huntCnt == 0 && t.rdStartQ && t.cmdIdx == 7) = true := by decide
/-- T12. -/
theorem test_cmdSend_consumes_nothing :
    meets (cycleOf { old with cmdIdx := 4 } 0x4271) (fun t => t.txLog == [0x00] && t.cmdIdx == 5 && t.rxLog == []) = true := by decide
/-- T14. -/
theorem test_huntMatch_tenth_attempt :
    meets (cycleOf { old with huntCnt := 9 } 0x42D2)
      (fun t => t.st == .hdr1 && t.frame[0] == 0x42 && t.huntCnt == 9 && t.rdStartQ) = true := by decide
/-- T15. -/
theorem test_huntDiscard_counts :
    meets (cycleOf { old with huntCnt := 0 } 0x4D52)
      (fun t => t.st == .hunt && t.huntCnt == 1 && t.rdStartQ && t.rxLog == [0x4D] && t.frame == old.frame) = true := by decide
/-- T18. -/
theorem test_huntDiscard_tenth :
    meets (cycleOf { old with huntCnt := 9 } 0xFFD2)
      (fun t => t.st == .done && t.huntCnt == 10 && t.resStatus == 1 && !t.rdStartQ) = true := by decide
/-- T19. -/
theorem test_huntTimeout_counts :
    meets (cycleOf { old with huntCnt := 4 } 0x0092) (fun t => t.st == .hunt && t.huntCnt == 5 && t.rdStartQ) = true := by decide
/-- T20. -/
theorem test_huntTimeout_tenth :
    meets (cycleOf { old with huntCnt := 9 } 0x0092) (fun t => t.st == .done && t.huntCnt == 10 && t.resStatus == 1) = true := by decide
/-- T22. -/
theorem test_huntWait_ignores_the_link :
    meets (cycleOf { old with huntCnt := 2 } 0x0002) (fun t => t.st == .hunt && t.huntCnt == 2 && !t.rdStartQ) = true := by decide
/-- T26. -/
theorem test_hdr1Match_with_timeout :
    meets (cycleOf { old with payCnt := 10 } 0x4DD3)
      (fun t => t.st == .payload && t.frame[1] == 0x4D && t.payCnt == 0 && t.rdStartQ) = true := by decide
/-- T24. -/
theorem test_hdr1Mismatch_of_42 :
    meets (cycleOf old 0x4253) (fun t => t.st == .done && t.resStatus == 2 && t.rxLog == [0x42]) = true := by decide
/-- T27. -/
theorem test_hdr1Timeout :
    meets (cycleOf old 0x0093) (fun t => t.st == .done && t.resStatus == 2 && t.rxLog == []) = true := by decide
/-- T28. -/
theorem test_hdr1Wait : meets (cycleOf old 0x0013) (fun t => t.st == .hdr1 && t.resStatus == 3) = true := by decide
/-- T33. -/
theorem test_payByte_tenth_with_timeout :
    meets (cycleOf { old with payCnt := 9 } 0x4CD4)
      (fun t => t.st == .check && t.frame[11] == 0x4C && t.payCnt == 10 && t.resStatus == 3) = true := by decide
/-- T34. -/
theorem test_payByte_sixth_with_timeout :
    meets (cycleOf { old with payCnt := 5 } 0xF4D4)
      (fun t => t.st == .done && t.frame[7] == 0xF4 && t.payCnt == 6 && t.resStatus == 4) = true := by decide
/-- T35. -/
theorem test_payTimeout :
    meets (cycleOf { old with payCnt := 4 } 0x0094) (fun t => t.st == .done && t.resStatus == 4 && t.payCnt == 4) = true := by decide
/-- T37. -/
theorem test_payWait : meets (cycleOf { old with payCnt := 3 } 0x0014) (fun t => t.st == .payload && t.payCnt == 3) = true := by decide
/-- T38 with T40's inputs. -/
theorem test_checkEval_success :
    meets (cycleOf { old with frame := k2 } 0x425D)
      (fun t => t.st == .done && t.resStatus == 0 && values t == (0, 500, 200) && sums t == (0x024C, 0x024C) && t.rxLog == []) = true := by decide
/-- T39. -/
theorem test_checkEval_checksum_error :
    meets (cycleOf { old with frame := k3 } 0x0015)
      (fun t => t.st == .done && t.resStatus == 3 && values t == (0, 0, 0) && sums t == (0x024C, 0x0002)) = true := by decide
/-- T42. -/
theorem test_doneRet_holds_the_results :
    meets (cycleOf old 0x0016) (fun t => t.st == .idle && t.resStatus == 3 && values t == (1, 2, 3)) = true := by decide
/-- T43. -/
theorem test_doneRet_ignores_start : meets (cycleOf { old with resStatus := 2 } 0x001E) (fun t => t.st == .idle && t.resStatus == 2) = true := by decide
/-- T44. -/
theorem test_illegalState :
    meets (cycleOf old 0x0017) (fun t => t.st == .idle && t.resStatus == 3 && t.outcomeCount == 0) = true := by decide
/-- T45. -/
theorem test_reset_cycle :
    meets (step { old with st := .payload, payCnt := 5, resStatus := 7, stimulus := expand [.reset] })
      (fun t => t.st == .idle && t.payCnt == 0 && t.resStatus == 7 && values t == (0, 0, 0) && !t.rdStartQ) = true := by decide

/-! ### The stand-alone units (95_test_vectors.md 2.1, 2.2, and the bus packing of S2b) -/

theorem test_csv_k4 : csvUnit 0x424DFFFFFFFFFFFFFFFF0887 = (0x0887, 0x0887, true) := by decide
theorem test_csv_k5 : csvUnit 0xFFFFFFFFFFFFFFFFFFFFFFFF = (0x09F6, 0xFFFF, false) := by decide
theorem test_fx_x4 : fxUnit 0x010203040506 = (258, 772, 1286) := by decide
theorem test_packing_s2b : packFrame k2 = 0x424D0000000001F400C8024C ∧ packWindow (window k2) = 0x000001F400C8 := by decide

/-! ### Witnesses: for each statement with hypotheses, values that meet them, at the ends of the ranges -/

/-- A cycle with nothing from the environment. -/
def none_ : Inputs := { rst := false, start := false, linkOpen := false, txReady := false, rxValid := false, rxData := 0, rdTimeout := false }
/-- A cycle that asks for a poll. -/
def go : Inputs := { none_ with start := true, linkOpen := true }
/-- A cycle in which the sink takes a byte. -/
def ack : Inputs := { none_ with txReady := true }
/-- A cycle that presents a byte. -/
def byteIn (b : Byte) : Inputs := { none_ with rxValid := true, rxData := b }
/-- A cycle that reports a timeout. -/
def late : Inputs := { none_ with rdTimeout := true }
/-- A reset cycle. -/
def rstIn : Inputs := { none_ with rst := true }

/-- A state in `st` whose next cycle has the inputs `inp`. -/
def inState (st : SeqState) (inp : Inputs) : State := { State.reset with st := st, stimulus := [inp] }

/-- The step of `s` answers a next state. -/
def steps (s : State) : Bool := meets (step s) (fun _ => true)

theorem exists_next_of_steps {s : State} (h : steps s = true) : ∃ t, step s = .next t := by
  unfold steps at h
  cases e : step s with
  | next t => exact ⟨t, rfl⟩
  | fault r => rw [e] at h; cases h
  | refused r => rw [e] at h; cases h

theorem witness_WaitingRulesKeepEverything :
    none_.start = false ∧ none_.txReady = false ∧ none_.rxValid = false ∧ none_.rdTimeout = false := by decide

theorem witness_NoLinkRecordsUnavailable :
    ({ go with linkOpen := false } : Inputs).start = true ∧ ({ go with linkOpen := false } : Inputs).linkOpen = false := by decide

theorem witness_StartClearsResultsAndEntersCmd : go.start = true ∧ go.linkOpen = true := by decide

theorem witness_SendTransfersTheCommandByte :
    ack.txReady = true
    ∧ ({ inState .cmd ack with cmdIdx := 0 } : State).cmdIdx.toNat = (0 : Fin 7).val ∧ (0 : Fin 7).val < 6
    ∧ ({ inState .cmd ack with cmdIdx := 5 } : State).cmdIdx.toNat = (5 : Fin 7).val ∧ (5 : Fin 7).val < 6
    ∧ ({ inState .cmd ack with cmdIdx := 6 } : State).cmdIdx.toNat = (6 : Fin 7).val ∧ (6 : Fin 7).val = 6
    ∧ (inState .cmd ack).st = .cmd := by decide

theorem witness_HeaderBytesAreStored :
    (byteIn 0x42).rxValid = true ∧ (byteIn 0x42).rxData = 0x42 ∧ (byteIn 0x4D).rxValid = true ∧ (byteIn 0x4D).rxData = 0x4D := by decide

theorem witness_FailedAttemptsAreCounted :
    ((byteIn 0x43).rxValid = true ∧ (byteIn 0x43).rxData ≠ 0x42) ∧ (late.rxValid = false ∧ late.rdTimeout = true)
    ∧ ({ State.reset with huntCnt := 9 } : State).huntCnt.toNat = 9
    ∧ ({ State.reset with huntCnt := 8 } : State).huntCnt.toNat < 9
    ∧ State.reset.huntCnt.toNat < 9 := by decide

theorem witness_SecondHeaderFailureEndsThePoll :
    ((byteIn 0x42).rxValid = true ∧ (byteIn 0x42).rxData ≠ 0x4D) ∧ (late.rxValid = false ∧ late.rdTimeout = true) := by decide

theorem witness_PayloadByteIsStored :
    (byteIn 0).rxValid = true
    ∧ ((11 : Fin 12).val = 2 + ({ State.reset with payCnt := 9 } : State).payCnt.toNat ∧ (11 : Fin 12).val = 11)
    ∧ ((10 : Fin 12).val = 2 + ({ State.reset with payCnt := 8 } : State).payCnt.toNat ∧ (10 : Fin 12).val < 11)
    ∧ ((2 : Fin 12).val = 2 + State.reset.payCnt.toNat ∧ (2 : Fin 12).val < 11)
    ∧ (byteIn 0).rdTimeout = false ∧ ({ byteIn 0 with rdTimeout := true } : Inputs).rdTimeout = true := by decide

theorem witness_PayloadTimeoutIsAnIoError : late.rxValid = false ∧ late.rdTimeout = true := by decide

/-- K2 and K4, valid, and K3, not. -/
theorem witness_CheckValidatesAndDecodes :
    (0x42 + 0x4D + 0 + 0 + 0 + 0 + 0x01 + 0xF4 + 0 + 0xC8) % 65536 = k2[10].toNat * 256 + k2[11].toNat
    ∧ (0x42 + 0x4D + 8 * 0xFF) % 65536 = k4[10].toNat * 256 + k4[11].toNat
    ∧ (0x42 + 0x4D + 0 + 0 + 0 + 0 + 0x01 + 0xF4 + 0 + 0xC8) % 65536 ≠ k3[10].toNat * 256 + k3[11].toNat := by decide

theorem witness_ReturnToIdleKeepsTheResults : (inState .done none_).st = .done ∧ (inState .unused7 none_).st = .unused7 := by decide

theorem witness_UnreachableCountersBehaveAsLogged :
    ({ State.reset with cmdIdx := 7 } : State).cmdIdx = 7
    ∧ 10 ≤ ({ State.reset with payCnt := 10 } : State).payCnt.toNat ∧ 10 ≤ ({ State.reset with payCnt := 15 } : State).payCnt.toNat
    ∧ 10 ≤ ({ State.reset with huntCnt := 10 } : State).huntCnt.toNat ∧ 10 ≤ ({ State.reset with huntCnt := 15 } : State).huntCnt.toNat := by
  decide

/-- A rule that runs, and the one that stops. -/
theorem witness_StepRunsTheDecodedRule :
    (inState .payload (byteIn 7)).inputNow.rst = false
    ∧ decode (stepWord .payload (byteIn 7)) = .ok (.payByte 7 false false false false)
    ∧ meets (exec (.payByte 7 false false false false) (inState .payload (byteIn 7))) (fun _ => true) = true
    ∧ exec (.payByte 7 false false false false) { inState .payload (byteIn 7) with payCnt := 10 } = .fault (.frameOffset 12) :=
  ⟨rfl, rfl, rfl, rfl⟩

theorem witness_ResetLoadsTheResetValues : (inState .payload rstIn).inputNow.rst = true := by decide

theorem witness_ResetGivesACleanEntry : (inState .cmd rstIn).inputNow.rst = true ∧ ∃ t, step (inState .cmd rstIn) = .next t :=
  ⟨rfl, exists_next_of_steps rfl⟩

theorem witness_OutputsFollowTheState :
    (inState .cmd ack).st = .cmd ∧ (inState .cmd ack).cmdIdx.toNat = (0 : Fin 7).val
    ∧ ({ inState .cmd ack with cmdIdx := 6 } : State).cmdIdx.toNat = (6 : Fin 7).val ∧ (inState .idle ack).st ≠ .cmd := by decide

theorem witness_ResultPortsChangeOnlyByTheirRules : ∃ t, step (inState .check none_) = .next t := exists_next_of_steps rfl

/-- A cycle that consumes, one that sends, and a reset cycle that consumes. -/
theorem witness_HandshakesMoveTheStreams :
    (∃ t, step (inState .hunt (byteIn 0)) = .next t) ∧ (∃ t, step (inState .cmd ack) = .next t)
    ∧ ∃ t, step (inState .hdr1 { byteIn 0 with rst := true }) = .next t :=
  ⟨exists_next_of_steps rfl, exists_next_of_steps rfl, exists_next_of_steps rfl⟩

theorem witness_ReadStartMarksANewReadOperation :
    (∃ t, step { inState .cmd ack with cmdIdx := 6 } = .next t) ∧ (∃ t, step { inState .hunt late with huntCnt := 8 } = .next t)
    ∧ (∃ t, step { inState .hunt late with huntCnt := 9 } = .next t) ∧ ∃ t, step (inState .hdr1 (byteIn 0x4D)) = .next t :=
  ⟨exists_next_of_steps rfl, exists_next_of_steps rfl, exists_next_of_steps rfl, exists_next_of_steps rfl⟩

/-- Into DONE, out of DONE, and neither. -/
theorem witness_OneOutcomeOnEnteringDone :
    (meets (step (inState .check none_)) (fun t => t.st == .done) = true ∧ (inState .check none_).inputNow.rst = false)
    ∧ (meets (step (inState .done none_)) (fun t => t.st == .idle) = true ∧ (inState .done none_).inputNow.rst = false)
    ∧ (meets (step (inState .idle go)) (fun t => t.st == .cmd) = true ∧ go.start = true ∧ go.rst = false)
    ∧ meets (step (inState .idle none_)) (fun t => t.st == .idle) = true := by decide

/-- Inputs that differ, for each group of states. -/
theorem witness_IgnoredInputsHaveNoEffect :
    (none_ ≠ ack ∧ none_.start = ack.start)
    ∧ (ack ≠ { ack with start := true } ∧ ack.txReady = ({ ack with start := true } : Inputs).txReady)
    ∧ (byteIn 5 ≠ { byteIn 5 with rdTimeout := true } ∧ (byteIn 5).rxData = ({ byteIn 5 with rdTimeout := true } : Inputs).rxData)
    ∧ (late ≠ { late with rxData := 5 } ∧ late.rxValid = false ∧ late.rdTimeout = ({ late with rxData := 5 } : Inputs).rdTimeout)
    ∧ go.rst = false ∧ late.rst = false ∧ ack.rst = false ∧ none_.rst = false ∧ (byteIn 5).rst = false := by decide

theorem witness_StepWordLayout : stepWord .hunt (byteIn 0x42) = 0x4242 := by decide

theorem witness_TableIsTotalAndFirstMatchDecodes :
    (0x4252#16 &&& 0xFF47 = 0x4242 ∧ 0x4252#16 &&& 0x0047 = 0x0042) ∧ (0x4D53#16 &&& 0xFF47 = 0x4D43 ∧ 0x4D53#16 &&& 0x0047 = 0x0043)
    ∧ (table[5]?.map (fun r => r.hits 0x4252), table[6]?.map (fun r => r.hits 0x4252)) = (some true, some true) := by decide

theorem witness_DecodeOfEncodeIsTheInstruction :
    (Instr.huntDiscard 0x41 true true true true).wellFormed = true ∧ (Instr.huntDiscard 0x43 true true true true).wellFormed = true
    ∧ (Instr.hdr1Mismatch 0x4C true true true true).wellFormed = true ∧ (Instr.hdr1Mismatch 0x42 true true true true).wellFormed = true := by
  decide

/-! Runs: the states after `n` cycles. -/

/-- The state after one cycle; a machine that stops stays. -/
def nextOr (s : State) : State :=
  match step s with
  | .next t => t
  | .fault _ => s
  | .refused _ => s

/-- The state after `n` cycles. -/
def after (s : State) : Nat → State
  | 0 => s
  | n + 1 => nextOr (after s n)

theorem step_eq_nextOr {s : State} (h : steps s = true) : step s = .next (nextOr s) := by
  obtain ⟨t, e⟩ := exists_next_of_steps h
  rw [nextOr, e]

theorem reachable_after {s : State} (h : Reachable s) (n : Nat) : Reachable (after s n) := by
  induction n with
  | zero => exact h
  | succ n ih =>
    rw [after]
    cases hs : steps (after s n) with
    | true => exact .step ih (step_eq_nextOr hs)
    | false =>
      have e : nextOr (after s n) = after s n := by
        unfold steps at hs
        unfold nextOr
        cases e : step (after s n) with
        | next t => rw [e] at hs; cases hs
        | fault r => rfl
        | refused r => rfl
      rw [e]
      exact ih

theorem isRun_after {s : State} {n : Nat} (h : ∀ k < n, steps (after s k) = true) : IsRun n (after s) :=
  fun k hk => step_eq_nextOr (h k hk)

/-- A poll that delivers the frame K2: the reset state, with the inputs of `START; CMDACK; FRAME 0 500 200; IDLE`. -/
def goodPoll : State := { State.reset with stimulus := go :: List.replicate 7 ack ++ k2.toList.map byteIn ++ [none_, none_] }

/-- The same with the frame K3, whose checksum is wrong. -/
def badPoll : State := { State.reset with stimulus := go :: List.replicate 7 ack ++ k3.toList.map byteIn ++ [none_, none_] }

theorem goodPoll_afterReset : goodPoll.AfterReset := ⟨rfl, rfl, rfl, rfl, rfl, rfl, ⟨rfl, rfl, rfl⟩, ⟨rfl, rfl⟩, rfl⟩
theorem badPoll_afterReset : badPoll.AfterReset := ⟨rfl, rfl, rfl, rfl, rfl, rfl, ⟨rfl, rfl, rfl⟩, ⟨rfl, rfl⟩, rfl⟩

theorem goodPoll_reaches (n : Nat) : Reachable (after goodPoll n) := reachable_after (.reset goodPoll_afterReset) n
theorem badPoll_reaches (n : Nat) : Reachable (after badPoll n) := reachable_after (.reset badPoll_afterReset) n

/-- Each state of a poll is reached: CMD with `cmd_idx` 0 and 6, HUNT, PAYLOAD with `pay_cnt` 0 and 9, CHECK, DONE, IDLE again. -/
theorem witness_ReachableStatesMeetTheList :
    ((after goodPoll 1).st = .cmd ∧ (after goodPoll 1).cmdIdx = 0) ∧ ((after goodPoll 7).st = .cmd ∧ (after goodPoll 7).cmdIdx = 6)
    ∧ (after goodPoll 8).st = .hunt
    ∧ ((after goodPoll 10).st = .payload ∧ (after goodPoll 10).payCnt = 0)
    ∧ ((after goodPoll 19).st = .payload ∧ (after goodPoll 19).payCnt = 9)
    ∧ (after goodPoll 20).st = .check
    ∧ ((after goodPoll 0).outputs.busy = false ∧ (after goodPoll 0).resStatus = 7)
    ∧ ∀ n, Reachable (after goodPoll n) :=
  ⟨by decide, by decide, by decide, by decide, by decide, by decide, by decide, goodPoll_reaches⟩

theorem witness_ReachableStatesMeetTheList_tenth_attempt :
    ∃ s : State, Reachable s ∧ s.st = .hunt ∧ s.huntCnt = 9 :=
  ⟨after { State.reset with stimulus := go :: List.replicate 7 ack ++ List.replicate 9 late } 17,
    reachable_after (.reset ⟨rfl, rfl, rfl, rfl, rfl, rfl, ⟨rfl, rfl, rfl⟩, ⟨rfl, rfl⟩, rfl⟩) 17, by decide⟩

/-- A running poll, SUCCESS, CHECKSUM_ERROR, and an outcome without a ChecksumPair. -/
theorem witness_ResultsReadWithTheirStatus :
    ((after goodPoll 10).outputs.busy = true ∧ (after goodPoll 10).outputs.done = false)
    ∧ ((after goodPoll 21).outputs.done = true ∧ (after goodPoll 21).outputs.resStatus = 0)
    ∧ ((after badPoll 21).outputs.done = true ∧ (after badPoll 21).outputs.resStatus = 3)
    ∧ (∀ n, Reachable (after goodPoll n)) ∧ (∀ n, Reachable (after badPoll n))
    ∧ ∃ s : State, Reachable s ∧ s.outputs.done = true ∧ s.outputs.resStatus = 5 :=
  ⟨by decide, by decide, by decide, goodPoll_reaches, badPoll_reaches,
    after { State.reset with stimulus := [{ none_ with start := true }] } 1,
    reachable_after (.reset ⟨rfl, rfl, rfl, rfl, rfl, rfl, ⟨rfl, rfl, rfl⟩, ⟨rfl, rfl⟩, rfl⟩) 1, by decide⟩

theorem witness_ReachableStatesAlwaysStep : Reachable State.reset :=
  .reset ⟨rfl, rfl, rfl, rfl, rfl, rfl, ⟨rfl, rfl, rfl⟩, ⟨rfl, rfl⟩, rfl⟩

/-- The last payload byte of K2 is awaited. -/
def lastByte : State :=
  { State.reset with
    st := .payload, cmdIdx := 7, payCnt := 9, frame := k2.set 11 0, frameWritten := (Vector.replicate 12 true).set 11 false
    stimulus := [byteIn 0x4C], rxLog := k2.toList.take 11, txLog := cmdRom }

theorem witness_EveryStepKeepsTheInvariant : lastByte.Inv ∧ ∃ t, step lastByte = .next t :=
  ⟨⟨⟨by decide, by decide, by decide, by decide, by decide, by decide⟩,
      ⟨by decide, by decide, by decide, by decide, by decide, by decide, by decide⟩,
      by decide, by decide, by decide, by decide, by decide, by decide⟩, exists_next_of_steps rfl⟩

theorem witness_EveryStepKeepsTheStreams : lastByte.Inv ∧ lastByte.StreamsAgree ∧ ∃ t, step lastByte = .next t :=
  ⟨witness_EveryStepKeepsTheInvariant.1,
    ⟨fun h => absurd h (by decide), fun _ => ⟨[], rfl⟩, fun h => absurd h (by decide), fun _ => ⟨[], rfl⟩, fun h => absurd h (by decide)⟩,
    exists_next_of_steps rfl⟩

/-- The smallest checksum field that is too large, and the largest that is too small. -/
theorem witness_ChecksumRange :
    ((k12.set 10 0x09)[0] = 0x42 ∧ (k12.set 10 0x09)[1] = 0x4D ∧ 0x08 < (k12.set 10 0x09)[10].toNat)
    ∧ ((k12.set 11 0x8E)[0] = 0x42 ∧ (k12.set 11 0x8E)[1] = 0x4D ∧ (be16 (k12.set 11 0x8E)[10] (k12.set 11 0x8E)[11]).toNat < 0x008F)
    ∧ 12 ≤ 12 := by decide

theorem witness_SingleByteChangesAreDetected :
    csok k2 = true ∧ 2 ≤ (2 : Fin 12).val ∧ (1 : Byte) ≠ k2[(2 : Fin 12)] ∧ 2 ≤ (11 : Fin 12).val ∧ (0x4D : Byte) ≠ k2[(11 : Fin 12)]
    ∧ ((2 : Fin 12) ≠ 9 ∧ (1 : Byte).toNat + (0xC7 : Byte).toNat = k2[(2 : Fin 12)].toNat + k2[(9 : Fin 12)].toNat)
    ∧ (k9.toList.take 10).Perm (k2.toList.take 10) := by decide

/-- S2b and H4. -/
theorem witness_FrameRoundTrip :
    (0x024C : Value) = csum16 (framexBytes 0 0 0 500 200 0x024C) ∧ k2 = framexBytes 0 0 0 500 200 0x024C
    ∧ (0x043A : Value) = csum16 (framexBytes 0x42 0x4D 0x4242 0x4D4D 0xFFFF 0x043A) := by decide

/-- K2 with K9, which differ at offsets 6 and 7, and with K10, at offsets 5 and 9. -/
theorem witness_ExtractionIsABijection :
    csok k2 = true ∧ csok k9 = true ∧ csok k10 = true ∧ (4 ≤ (6 : Fin 12).val ∧ (6 : Fin 12).val ≤ 9 ∧ k2[(6 : Fin 12)] ≠ k9[(6 : Fin 12)])
    ∧ (4 ≤ (9 : Fin 12).val ∧ (9 : Fin 12).val ≤ 9 ∧ k2[(9 : Fin 12)] ≠ k10[(9 : Fin 12)]) := by decide

/-- A span: one waiting cycle, then `i`. -/
def slow (i : Inputs) : Span := ⟨[none_], i⟩
/-- A span of one cycle. -/
def quick (i : Inputs) : Span := ⟨[], i⟩

/-- Seven takings, the first after a stall. -/
def sevenSends : List Span := slow ack :: List.replicate 6 (quick ack)

theorem witness_CommandIsSentWhole :
    sevenSends.length = 7 ∧ (∀ a ∈ sevenSends, a.isTransmit = true)
    ∧ (∃ s : State, s.st = .cmd ∧ s.cmdIdx = 0 ∧ s.stimulus = spanCycles sevenSends ++ [go]) :=
  ⟨by decide, by decide, { State.reset with st := .cmd, stimulus := spanCycles sevenSends ++ [go] }, rfl, rfl, rfl⟩

/-- Failed attempts of both kinds. -/
def misses (n : Nat) : List Span := slow late :: List.replicate n (quick (byteIn 0x4D))

theorem witness_TenFailedAttemptsLoseTheHeader :
    (misses 9).length = 10 ∧ (∀ a ∈ misses 9, a.isAttempt = true ∧ a.findsHeader = false)
    ∧ ∃ s : State, s.st = .hunt ∧ s.huntCnt = 0 ∧ s.stimulus = spanCycles (misses 9) ++ [go] :=
  ⟨by decide, by decide, { State.reset with st := .hunt, stimulus := spanCycles (misses 9) ++ [go] }, rfl, rfl, rfl⟩

/-- None and nine failed attempts; then `0x4D`, `0x42`, or a timeout. -/
theorem witness_FirstHeaderByteIsFoundWithinTheBudget :
    (misses 8).length = 9 ∧ (∀ a ∈ misses 8, a.isAttempt = true ∧ a.findsHeader = false)
    ∧ (slow (byteIn 0x42)).isAttempt = true ∧ (slow (byteIn 0x42)).findsHeader = true
    ∧ (slow (byteIn 0x4D)).isAttempt = true ∧ (slow (byteIn 0x4D)).last.rxValid = true ∧ (slow (byteIn 0x4D)).last.rxData = 0x4D
    ∧ (slow (byteIn 0x42)).last.rxData ≠ 0x4D ∧ (slow late).isAttempt = true ∧ (slow late).last.rxValid = false
    ∧ ∃ s : State, s.st = .hunt ∧ s.huntCnt = 0
      ∧ s.stimulus = spanCycles (misses 8) ++ (slow (byteIn 0x42)).cycles ++ (slow (byteIn 0x4D)).cycles ++ [] :=
  ⟨by decide, by decide, by decide, by decide, by decide, by decide, by decide, by decide, by decide, by decide,
    { State.reset with
      st := .hunt, stimulus := spanCycles (misses 8) ++ (slow (byteIn 0x42)).cycles ++ (slow (byteIn 0x4D)).cycles ++ [] },
    rfl, rfl, rfl⟩

/-- The payload bytes of K2 but the last, the first after a wait. -/
def nineOf (f : Frame) : List Span := slow (byteIn f[2]) :: ((f.toList.drop 3).take 8).map (fun b => quick (byteIn b))
/-- The last payload byte, with a timeout in the same cycle. -/
def tenthOf (f : Frame) : Span := slow { byteIn f[11] with rdTimeout := true }

theorem witness_TenPayloadBytesReachCheck :
    (nineOf k2).length = 9 ∧ (∀ a ∈ nineOf k2, a.isPayloadByte false = true) ∧ (tenthOf k2).isPayloadByte true = true
    ∧ ∃ s : State, s.st = .payload ∧ s.payCnt = 0 ∧ s.stimulus = spanCycles (nineOf k2) ++ (tenthOf k2).cycles ++ [go] :=
  ⟨by decide, by decide, by decide,
    { State.reset with st := .payload, stimulus := spanCycles (nineOf k2) ++ (tenthOf k2).cycles ++ [go] }, rfl, rfl, rfl⟩

/-- Nine bytes and a timeout alone; eight bytes and a ninth with a timeout; a timeout at once. -/
theorem witness_ShortPayloadIsAnIoError :
    ((∀ a ∈ nineOf k2, a.isPayloadByte false = true) ∧ (slow late).isAttempt = true ∧ (slow late).last.rdTimeout = true
      ∧ (nineOf k2).length + (slow late).bytes.length ≤ 9)
    ∧ ((tenthOf k2).isAttempt = true ∧ (tenthOf k2).last.rdTimeout = true
      ∧ ((nineOf k2).take 8).length + (tenthOf k2).bytes.length ≤ 9)
    ∧ ∃ s : State, s.st = .payload ∧ s.payCnt = 0 ∧ s.stimulus = spanCycles (nineOf k2) ++ (slow late).cycles ++ [] :=
  ⟨by decide, by decide,
    { State.reset with st := .payload, stimulus := spanCycles (nineOf k2) ++ (slow late).cycles ++ [] }, rfl, rfl, rfl⟩

/-- The inputs of a whole poll that receives `f`, with nine failed attempts. -/
def wholePoll (f : Frame) : List Inputs :=
  go :: (spanCycles sevenSends ++ (spanCycles (misses 8) ++ (slow (byteIn 0x42)).cycles) ++ (slow (byteIn 0x4D)).cycles
    ++ (spanCycles (nineOf f) ++ (tenthOf f).cycles) ++ none_ :: [none_])

theorem witness_WholePollDeliversTheFrame :
    (go.rst = false ∧ go.start = true ∧ go.linkOpen = true ∧ none_.rst = false)
    ∧ (slow (byteIn 0x4D)).isSecondHeader = true
    ∧ (∀ a ∈ nineOf k3, a.isPayloadByte false = true) ∧ (tenthOf k3).isPayloadByte true = true
    ∧ k2.toList = 0x42 :: 0x4D :: (spanBytes (nineOf k2) ++ [(tenthOf k2).last.rxData])
    ∧ k3.toList = 0x42 :: 0x4D :: (spanBytes (nineOf k3) ++ [(tenthOf k3).last.rxData])
    ∧ csum16 k2 = be16 k2[10] k2[11] ∧ csum16 k3 ≠ be16 k3[10] k3[11]
    ∧ ∃ s u : State, s.st = .idle ∧ s.stimulus = wholePoll k2 ∧ u.st = .idle ∧ u.stimulus = wholePoll k3 :=
  ⟨by decide, by decide, by decide, by decide, by decide, by decide, by decide, by decide,
    { State.reset with stimulus := wholePoll k2 }, { State.reset with stimulus := wholePoll k3 }, rfl, rfl, rfl, rfl⟩

/-- A poll in which the sink takes every byte at once and every read operation ends in its first cycle: ten timeouts. -/
def promptPoll : State :=
  { State.reset with stimulus := go :: List.replicate 7 ack ++ List.replicate 10 late ++ List.replicate 4 none_ }

theorem witness_EveryPollRecordsOneOutcome :
    IsRun 19 (after promptPoll) ∧ NoReset 19 (after promptPoll)
    ∧ (after promptPoll 0).st = .idle ∧ (after promptPoll 0).inputNow.start = true
    ∧ (∀ k, 0 < k → k < 19 → (after promptPoll k).st ≠ .idle) ∧ (after promptPoll 19).st = .idle := by
  refine ⟨isRun_after (by decide), by unfold NoReset; decide, rfl, rfl, ?_, by decide⟩
  have g : ∀ k < 19, 0 < k → (after promptPoll k).st ≠ .idle := by decide
  exact fun k h0 hk => g k hk h0

theorem witness_PollsEndWithinTheBound :
    22 = 1 + 7 * 1 + 12 * 1 + 2 ∧ IsRun 22 (after promptPoll) ∧ NoReset 22 (after promptPoll)
    ∧ TxWithin 1 22 (after promptPoll) ∧ ReadsWithin 1 22 (after promptPoll)
    ∧ (after promptPoll 0).st = .idle ∧ (after promptPoll 0).inputNow.start = true := by
  refine ⟨rfl, isRun_after ?_, ?_, ?_, ?_, rfl, rfl⟩
  · decide
  · unfold NoReset; decide
  · intro k hk h
    refine ⟨0, by omega, ?_⟩
    have g : ∀ k < 22, (after promptPoll k).outputs.txValid = true → (after promptPoll k).inputNow.txReady = true := by decide
    exact g k (by omega) h
  · intro k hk h
    refine ⟨0, by omega, ?_⟩
    have g : ∀ k < 22, (after promptPoll k).outputs.rdStart = true → (after promptPoll k).endsRead = true := by decide
    exact g k (by omega) h

/-- Two cycles of a stalled command, and two of a quiet hunt. -/
theorem witness_HangsNeverEnd :
    (IsRun 2 (after { inState .cmd none_ with stimulus := [none_, none_] })
      ∧ NoReset 2 (after { inState .cmd none_ with stimulus := [none_, none_] })
      ∧ ∀ k < 2, (after { inState .cmd none_ with stimulus := [none_, none_] } k).inputNow.txReady = false)
    ∧ (IsRun 2 (after { inState .hunt none_ with stimulus := [none_, none_] })
      ∧ NoReset 2 (after { inState .hunt none_ with stimulus := [none_, none_] })
      ∧ (after { inState .hunt none_ with stimulus := [none_, none_] } 0).outputs.rxReady = true
      ∧ ∀ k < 2, (after { inState .hunt none_ with stimulus := [none_, none_] } k).inputNow.rxValid = false
        ∧ (after { inState .hunt none_ with stimulus := [none_, none_] } k).inputNow.rdTimeout = false) := by
  refine ⟨⟨isRun_after (by decide), ?_, by decide⟩, ⟨isRun_after (by decide), ?_, by decide, by decide⟩⟩ <;>
    (unfold NoReset; decide)

end Sys2Proof.Tests
end

namespace Sys2Proof.Machine

/-! ### Where a meaning can stop -/

/-- The one stop of a meaning: PAY_BYTE with no frame register left for the byte (log entry 8). -/
theorem exec_fault_inversion {i : Instr} {s : State} {f : Fault} (h : exec i s = .fault f) :
    10 ≤ s.payCnt.toNat ∧ ∃ d t r l b, i = .payByte d t r l b := by
  have hfull : 10 ≤ s.payCnt.toNat := by
    by_contra hp
    obtain ⟨u, hu⟩ := exec_next_of_place i s (by omega)
    rw [hu] at h
    cases h
  refine ⟨hfull, ?_⟩
  cases i with
  | payByte d t r l b => exact ⟨d, t, r, l, b, rfl⟩
  | cmdSend d t v l b => rcases execCmdSend_cases s with ⟨_, e⟩ | ⟨_, e⟩ <;> rw [exec, e] at h <;> cases h
  | checkEval d t v r l b => rcases execCheckEval_cases s with ⟨_, e⟩ | ⟨_, e⟩ <;> rw [exec, e] at h <;> cases h
  | _ => cases h

/-- Only PAYLOAD selects PAY_BYTE (R75). -/
theorem st_eq_payload_of_selected_payByte {st : SeqState} {inp : Inputs} {d : Byte} {t r l b : Bool}
    (h : selected st inp = .payByte d t r l b) : st = .payload := by
  cases st with
  | payload => rfl
  | idle | cmd | hunt | hdr1 =>
    simp only [selected] at h
    repeat' split at h
    all_goals cases h
  | check | done | unused7 => cases h

/-- The selected rule runs wherever a payload byte that PAYLOAD awaits has a frame register. -/
theorem exec_selected_next {s : State} (hp : s.st = .payload → s.payCnt.toNat ≤ 9) (inp : Inputs) :
    ∃ u, exec (selected s.st inp) s = .next u := by
  cases he : exec (selected s.st inp) s with
  | next u => exact ⟨u, rfl⟩
  | refused r => exact absurd he (exec_ne_refused _ s r)
  | fault f =>
    obtain ⟨hfull, d, t, r, l, b, hi⟩ := exec_fault_inversion he
    have hroom := hp (st_eq_payload_of_selected_payByte hi)
    omega

/-! ### A step and the rule it runs -/

/-- Settles O13: `step_of_not_rst` with the decoder's answer, outcome by outcome. -/
theorem stepRunsTheDecodedRule : Obligations.StepRunsTheDecodedRule := by
  intro s i hrst hdec
  have hi : selected s.st s.inputNow = i := Except.ok.inj ((decode_stepWord s.st s.inputNow).symm.trans hdec)
  have hstep : step s = closeCycle (exec i s) := hi ▸ step_of_not_rst hrst
  refine ⟨fun t ht => ?_, fun r hr => ?_, exec_ne_refused i s⟩
  · rw [hstep, ht]; rfl
  · rw [hstep, hr]; rfl

/-! ### A run from reset never stops -/

/-- R44's bound on `pay_cnt`: PAYLOAD is entered with `pay_cnt = 0` and left with its tenth byte, so the
bound alone is inductive. -/
theorem transition_payCnt_le {inp : Inputs} {s u : State} (h : Transition inp s u)
    (hp : s.st = .payload → s.payCnt.toNat ≤ 9) (hu : u.st = .payload) : u.payCnt.toNat ≤ 9 := by
  cases h with
  | hdr1Match => simp
  | payByte hst hv k hk h9 ht =>
    change (s.payCnt + 1).toNat ≤ 9
    bv_omega
  | payWait hst hv ht => exact hp hst
  | _ => simp [*] at hu -- the rule leaves a state other than PAYLOAD

/-- In every state reachable from reset the byte that PAYLOAD awaits has a frame register (R44). -/
theorem Reachable.payCnt_le {s : State} (h : Reachable s) : s.st = .payload → s.payCnt.toNat ≤ 9 := by
  induction h with
  | reset h0 => intro hst; rw [h0.st] at hst; cases hst
  | step _ hs ih =>
    rcases step_inversion hs with ⟨_, rfl⟩ | ⟨_, u, hu, rfl⟩
    · intro hst; cases hst
    · simpa only [endCycle_st, endCycle_payCnt] using transition_payCnt_le hu ih

/-- Settles O32: a reset cycle always answers, every step word decodes, and the one stop of a meaning needs
`pay_cnt` above 9 in PAYLOAD, which no run from reset has. -/
theorem reachableStatesAlwaysStep : Obligations.ReachableStatesAlwaysStep := by
  intro s hreach
  cases hrst : s.inputNow.rst with
  | true => exact ⟨_, step_of_rst hrst⟩
  | false =>
    obtain ⟨u, hu⟩ := exec_selected_next hreach.payCnt_le s.inputNow
    exact ⟨endCycle u, by rw [step_of_not_rst hrst, hu]; rfl⟩

end Sys2Proof.Machine

namespace Sys2Proof.Machine

/-! ### The outputs, by state -/

/-- `CMD_ROM` as the statements write it out (R7, R32). -/
theorem cmdRom_getElem : ∀ k : Fin 7,
    cmdRom[k.val]'k.isLt = (#v[0x42, 0x4D, 0xE3, 0x00, 0x00, 0x01, 0x72] : Vector Byte 7)[k] := by decide

theorem txData_of_cmd {s : State} (hst : s.st = .cmd) : s.txData = s.cmdByte := if_pos hst

theorem txData_of_ne_cmd {s : State} (hst : s.st ≠ .cmd) : s.txData = 0x00 := if_neg hst

theorem rxReady_iff (s : State) : s.rxReady = true ↔ s.st = .hunt ∨ s.st = .hdr1 ∨ s.st = .payload := by
  simp [State.rxReady, or_assoc]

/-- Settles O17: each output is the test of `st` that R33 to R36 give; the byte offered is `cmdByte_eq`. -/
theorem outputsFollowTheState : Obligations.OutputsFollowTheState := by
  intro s
  refine ⟨bne_iff_ne, beq_iff_eq, beq_iff_eq, fun k hst hk => ?_, txData_of_ne_cmd, rxReady_iff s, rfl⟩
  have hlt : s.cmdIdx.toNat < cmdRom.length := hk ▸ k.isLt
  calc s.txData = cmdRom[s.cmdIdx.toNat] := (txData_of_cmd hst).trans (cmdByte_eq hlt)
    _ = cmdRom[k.val]'k.isLt := getElem_congr_idx hk
    _ = _ := cmdRom_getElem k

/-- Settles O16: the reset table is State.reset's definition. -/
theorem resetStateIsTheTable : Obligations.ResetStateIsTheTable :=
  ⟨rfl, rfl, rfl, rfl, rfl, rfl, rfl, rfl, rfl, rfl, rfl, rfl⟩

/-! ### Counters that no run from reset reaches -/

/-- With `hunt_cnt` not 9 a failed attempt is only counted, in the width of R25. -/
theorem failAttempt_of_ne {s : State} (h : s.huntCnt.toNat ≠ 9) :
    failAttempt s = { s with huntCnt := BitVec.ofNat 4 (s.huntCnt.toNat + 1), rdStartQ := true } := by
  have hsucc : s.huntCnt + 1 = BitVec.ofNat 4 (s.huntCnt.toNat + 1) := BitVec.eq_of_toNat_eq (by simp)
  rcases failAttempt_cases s with ⟨h9, _⟩ | ⟨_, e⟩
  · exact absurd h9 h
  · rw [e, hsucc]; rfl

/-- Settles O12: CMD_SEND is not at its last byte, PAY_BYTE has no place for the byte, and the failed attempt
is not the tenth. -/
theorem unreachableCountersBehaveAsLogged : Obligations.UnreachableCountersBehaveAsLogged := by
  intro s d t v r l b
  refine ⟨fun h7 => ⟨s.cmdByte, ?_⟩, execPayByte_fault d t s, fun h10 => ?_⟩
  · rcases execCmdSend_cases s with ⟨h6, _⟩ | ⟨_, e⟩
    · simp [h7] at h6
    · rw [exec, e, h7]; rfl
  · have h9 : s.huntCnt.toNat ≠ 9 := by omega
    exact ⟨congrArg Host.Outcome.next (failAttempt_of_ne (s := beginRule s) h9),
      congrArg Host.Outcome.next (failAttempt_of_ne (s := rxTake d (beginRule s)) h9)⟩

/-! ### The result registers (R29 to R31, R37) -/

/-- The six result registers of `t` are those of `s`. -/
def SameResults (s t : State) : Prop :=
  t.resStatus = s.resStatus ∧ t.resF0 = s.resF0 ∧ t.resF1 = s.resF1 ∧ t.resF2 = s.resF2
  ∧ t.resCsumCalc = s.resCsumCalc ∧ t.resCsumRx = s.resCsumRx

theorem SameResults.refl (s : State) : SameResults s s := ⟨rfl, rfl, rfl, rfl, rfl, rfl⟩

/-- Only a poll's start and the entry into DONE write the result registers. -/
theorem transition_results {inp : Inputs} {s u : State} (h : Transition inp s u) :
    (s.st = .idle ∧ inp.start = true) ∨ u.st = .done ∨ SameResults s u := by
  cases h with
  | idleNolink hst hs | idleStart hst hs => exact .inl ⟨hst, hs⟩
  | huntDiscardLast | huntTimeoutLast | hdr1Mismatch | hdr1Timeout | payByteShort | payTimeout
  | checkPass | checkFail => exact .inr (.inl rfl)
  | _ => exact .inr (.inr (SameResults.refl s)) -- the rule names no result register

/-- Settles O18, by `transition_results`. -/
theorem resultPortsChangeOnlyByTheirRules : Obligations.ResultPortsChangeOnlyByTheirRules := by
  intro s t h
  refine ⟨SameResults.refl s, ?_⟩
  rcases step_inversion h with ⟨hr, _⟩ | ⟨_, u, hu, rfl⟩
  · exact .inl hr
  · have hres := transition_results hu
    exact .inr hres

/-! ### The start of a read operation (R28) -/

/-- The rule of a cycle without reset begins a new read operation. -/
def BeginsRead (inp : Inputs) (s : State) : Prop :=
  (s.st = .cmd ∧ inp.txReady = true ∧ s.cmdIdx = 6)
  ∨ (s.st = .hunt ∧ inp.rxValid = true ∧ inp.rxData = 0x42)
  ∨ (s.st = .hunt ∧ (inp.rxValid = true ∨ inp.rdTimeout = true) ∧ s.huntCnt ≠ 9)
  ∨ (s.st = .hdr1 ∧ inp.rxValid = true ∧ inp.rxData = 0x4D)

theorem cmdIdx_eq_six_iff (s : State) : s.cmdIdx = 6#3 ↔ s.cmdIdx.toNat = 6 := BitVec.toNat_inj.symm

theorem huntCnt_eq_nine_iff (s : State) : s.huntCnt = 9#4 ↔ s.huntCnt.toNat = 9 := BitVec.toNat_inj.symm

theorem transition_rdStartQ {inp : Inputs} {s u : State} (h : Transition inp s u) :
    u.rdStartQ = true ↔ BeginsRead inp s := by
  cases h with
  | cmdSendLast hst hr h6 => exact iff_of_true rfl (.inl ⟨hst, hr, (cmdIdx_eq_six_iff s).2 h6⟩)
  | huntMatch hst hv hd => exact iff_of_true rfl (.inr (.inl ⟨hst, hv, hd⟩))
  | huntDiscard hst hv hd h9 =>
    exact iff_of_true rfl (.inr (.inr (.inl ⟨hst, .inl hv, mt (huntCnt_eq_nine_iff s).1 h9⟩)))
  | huntTimeout hst hv ht h9 =>
    exact iff_of_true rfl (.inr (.inr (.inl ⟨hst, .inr ht, mt (huntCnt_eq_nine_iff s).1 h9⟩)))
  | hdr1Match hst hv hd => exact iff_of_true rfl (.inr (.inr (.inr ⟨hst, hv, hd⟩)))
  | _ => -- the rule clears `rd_start_q`, and its guards exclude each of the four starts
    refine iff_of_false Bool.false_ne_true ?_
    simp_all [BeginsRead, cmdIdx_eq_six_iff, huntCnt_eq_nine_iff]

/-- Settles O20, by `transition_rdStartQ`; a reset cycle clears the register. -/
theorem readStartMarksANewReadOperation : Obligations.ReadStartMarksANewReadOperation := by
  refine ⟨rfl, fun s t h => ?_⟩
  rcases step_inversion h with ⟨hr, rfl⟩ | ⟨hr, u, hu, rfl⟩
  · exact iff_of_false Bool.false_ne_true (by simp [hr])
  · exact (transition_rdStartQ hu).trans (iff_and_self.2 fun _ => hr)

/-! ### Results and status agree (R181, R183, R218) -/

/-- No outcome stands: status NONE, and every 16-bit result is 0. -/
def State.NoResult (s : State) : Prop :=
  s.resStatus = 7 ∧ (s.resF0 = 0 ∧ s.resF1 = 0 ∧ s.resF2 = 0) ∧ s.resCsumCalc = 0 ∧ s.resCsumRx = 0

theorem State.NoResult.agree {s : State} (h : s.NoResult) (hst : s.st ≠ .done) : s.ResultsAgree := by
  obtain ⟨hs, hv, hp⟩ := h
  exact {
    running := fun _ _ => hs
    recorded := fun hd => absurd hd hst
    notReserved := by simp [hs]
    values := fun _ => hv
    pairEqual := fun _ => by rw [hp.1, hp.2]
    pairUnequal := by simp [hs]
    pairZero := fun _ _ => hp }

/-- While a poll runs no outcome stands. -/
theorem State.ResultsAgree.noResult {s : State} (h : s.ResultsAgree) (hidle : s.st ≠ .idle) (hdone : s.st ≠ .done) :
    s.NoResult := by
  have h7 := h.running hidle hdone
  exact ⟨h7, h.values (by simp [h7]), h.pairZero (by simp [h7]) (by simp [h7])⟩

/-- The codes of R181: 6 and 7 are no outcome's; 0 is SUCCESS and 3 is CHECKSUM_ERROR. -/
theorem OutcomeCode.code_spec (c : OutcomeCode) :
    c.code ≠ 7 ∧ c.code ≠ 6 ∧ (c.code = 0 ↔ c = .success) ∧ (c.code = 3 ↔ c = .checksumError) := by
  cases c <;> decide

/-- What `finish` must be given so that the results agree with the status it records. -/
theorem finish_agree {c : OutcomeCode} {f0 f1 f2 cc cr : Value} (s : State)
    (hval : c ≠ .success → f0 = 0 ∧ f1 = 0 ∧ f2 = 0) (heq : c = .success → cc = cr)
    (hne : c = .checksumError → cc ≠ cr) (hzero : c ≠ .success → c ≠ .checksumError → cc = 0 ∧ cr = 0) :
    (finish c f0 f1 f2 cc cr s).ResultsAgree := by
  obtain ⟨h7, h6, h0, h3⟩ := c.code_spec
  exact {
    running := fun _ hd => absurd rfl hd
    recorded := fun _ => h7
    notReserved := h6
    values := fun h => hval (mt h0.2 h)
    pairEqual := fun h => heq (h0.1 h)
    pairUnequal := fun h => hne (h3.1 h)
    pairZero := fun h h' => hzero (mt h0.2 h) (mt h3.2 h') }

/-! ### The invariant, by sequencer state: what Inv asks for in each of them -/

section ByState

variable {s : State}

theorem inv_of_idle (hst : s.st = .idle) (hhunt : s.huntCnt.toNat ≤ 10) (hpay : s.payCnt.toNat ≤ 10)
    (hres : s.ResultsAgree) (hfirst : s.resStatus = 7 → s.outcomeCount = 0) (hrd : s.rdStartQ = false) : s.Inv := by
  refine ⟨⟨?_, ?_, ?_, ?_, ?_, fun _ => hfirst⟩, hres, hhunt, hpay, ?_, ?_, ?_, ?_⟩ <;> simp [hst, hrd]

theorem inv_of_done (hst : s.st = .done) (hhunt : s.huntCnt.toNat ≤ 10) (hpay : s.payCnt.toNat ≤ 10)
    (hres : s.ResultsAgree) (hrd : s.rdStartQ = false) : s.Inv := by
  refine ⟨⟨?_, ?_, ?_, ?_, ?_, ?_⟩, hres, hhunt, hpay, ?_, ?_, ?_, ?_⟩ <;> simp [hst, hrd, State.busy]

theorem inv_of_cmd (hst : s.st = .cmd) (hhunt : s.huntCnt.toNat ≤ 10) (hpay : s.payCnt.toNat ≤ 10)
    (hno : s.NoResult) (hidx : s.cmdIdx.toNat ≤ 6) (hrd : s.rdStartQ = false) : s.Inv := by
  refine ⟨⟨fun _ => hidx, ?_, ?_, ?_, ?_, ?_⟩, hno.agree (by simp [hst]), hhunt, hpay, ?_, ?_, ?_, ?_⟩ <;>
    simp [hst, hrd, State.busy]

theorem inv_of_hunt (hst : s.st = .hunt) (hpay : s.payCnt.toNat ≤ 10) (hno : s.NoResult) (hidx : s.cmdIdx = 7)
    (hcnt : s.huntCnt.toNat ≤ 9) : s.Inv := by
  refine ⟨⟨?_, fun _ => hcnt, ?_, ?_, ?_, ?_⟩, hno.agree (by simp [hst]), by omega, hpay, fun _ => hidx,
    ?_, ?_, ?_⟩ <;> simp [hst, State.busy, rxReady_iff]

theorem inv_of_hdr1 (hst : s.st = .hdr1) (hhunt : s.huntCnt.toNat ≤ 10) (hpay : s.payCnt.toNat ≤ 10)
    (hno : s.NoResult) (hidx : s.cmdIdx = 7) (hhdr : s.frame[0] = 0x42 ∧ s.frameWritten[0] = true) : s.Inv := by
  refine ⟨⟨?_, ?_, ?_, ?_, ?_, ?_⟩, hno.agree (by simp [hst]), hhunt, hpay, fun _ => hidx, fun _ => hhdr,
    ?_, ?_⟩ <;> simp [hst, State.busy, rxReady_iff]

theorem inv_of_payload (hst : s.st = .payload) (hhunt : s.huntCnt.toNat ≤ 10) (hno : s.NoResult)
    (hidx : s.cmdIdx = 7) (hcnt : s.payCnt.toNat ≤ 9) (h0 : s.frame[0] = 0x42) (h1 : s.frame[1] = 0x4D)
    (hw : s.frameWritten[0] = true ∧ s.frameWritten[1] = true)
    (hbytes : ∀ k : Fin 12, 2 ≤ k.val → k.val ≤ 1 + s.payCnt.toNat → s.frameWritten[k] = true) : s.Inv := by
  refine ⟨⟨?_, ?_, fun _ => ⟨hcnt, h0, h1, hbytes⟩, ?_, ?_, ?_⟩, hno.agree (by simp [hst]), hhunt, by omega,
    fun _ => hidx, ?_, fun _ => hw, ?_⟩ <;> simp [hst, State.busy, rxReady_iff]

theorem inv_of_check (hst : s.st = .check) (hhunt : s.huntCnt.toNat ≤ 10) (hno : s.NoResult)
    (hidx : s.cmdIdx = 7) (hcnt : s.payCnt.toNat = 10) (h0 : s.frame[0] = 0x42) (h1 : s.frame[1] = 0x4D)
    (hall : ∀ k : Fin 12, s.frameWritten[k] = true) (hrd : s.rdStartQ = false) : s.Inv := by
  refine ⟨⟨?_, ?_, ?_, fun _ => ⟨hcnt, h0, h1, hall⟩, ?_, ?_⟩, hno.agree (by simp [hst]), hhunt, by omega,
    fun _ => hidx, ?_, ?_, ?_⟩ <;> simp [hst, hrd, State.busy]

end ByState

/-! ### The invariant at reset -/

theorem State.AfterReset.inv {s : State} (h : s.AfterReset) : s.Inv := by
  have hno : s.NoResult := ⟨h.resStatus, h.values, h.sums⟩
  exact inv_of_idle h.st (by simp [h.huntCnt]) (by simp [h.payCnt]) (hno.agree (by simp [h.st]))
    (fun _ => h.noOutcome) h.rdStartQ

theorem streamsAgree_of_idle {s : State} (hst : s.st = .idle) : s.StreamsAgree := by
  constructor <;> simp [hst]

theorem afterReset_reset : State.reset.AfterReset :=
  ⟨rfl, rfl, rfl, rfl, rfl, rfl, ⟨rfl, rfl, rfl⟩, ⟨rfl, rfl⟩, rfl⟩

/-- A reset cycle leaves the reset values, whatever the state and the inputs (R210). -/
theorem resetCycle_afterReset (inp : Inputs) (s : State) : (endCycle (resetCycle inp s)).AfterReset :=
  ⟨rfl, rfl, rfl, rfl, rfl, rfl, ⟨rfl, rfl, rfl⟩, ⟨rfl, rfl⟩, rfl⟩

/-- Settles O29: State.reset holds the reset values, and in IDLE nothing is asked of the streams. -/
theorem resetMeetsTheInvariants : Obligations.ResetMeetsTheInvariants :=
  ⟨afterReset_reset.inv, streamsAgree_of_idle rfl, afterReset_reset⟩

/-! ### Operations that keep the invariant -/

/-- In every state of a running poll no outcome stands. -/
theorem State.Inv.noResult {s : State} {st : SeqState} (h : s.Inv) (hst : s.st = st)
    (hrun : st ≠ .idle ∧ st ≠ .done := by decide) : s.NoResult :=
  h.results.noResult (hst ▸ hrun.1) (hst ▸ hrun.2)

/-- A waiting rule keeps it: of what Inv reads, only `rd_start_q` is written. -/
theorem State.Inv.beginRule {s : State} (h : s.Inv) : (beginRule s).Inv :=
  { h with
    listed := { h.listed with }
    results := { h.results with }
    readStart := fun hq => absurd hq Bool.false_ne_true }

/-- The end of a cycle keeps it: Inv reads neither the plan of inputs nor the number of the cycle. -/
theorem State.Inv.endCycle {s : State} (h : s.Inv) : (endCycle s).Inv :=
  { h with listed := { h.listed with }, results := { h.results with } }

/-- A byte taken keeps it: Inv reads no stream record. -/
theorem State.Inv.rxTake {s : State} (h : s.Inv) (b : Byte) : (rxTake b s).Inv :=
  { h with listed := { h.listed with }, results := { h.results with } }

/-- A return to IDLE keeps it: an outcome is recorded, so the status is not NONE (R116). -/
theorem State.Inv.returnToIdle {s : State} (h : s.Inv) (hst : s.st = .done) :
    (returnToIdle (Machine.beginRule s)).Inv :=
  inv_of_idle rfl h.huntLegal h.payLegal { h.results with running := fun hi => absurd rfl hi, recorded := nofun }
    (fun h7 => absurd h7 (h.results.recorded hst)) rfl

/-- A failed poll enters DONE within the invariant. -/
theorem inv_finishFailed {s : State} {c : OutcomeCode} (hc : c ≠ .checksumError) (hhunt : s.huntCnt.toNat ≤ 10)
    (hpay : s.payCnt.toNat ≤ 10) (hrd : s.rdStartQ = false) : (finishFailed c s).Inv :=
  inv_of_done rfl hhunt hpay
    (finish_agree s (fun _ => ⟨rfl, rfl, rfl⟩) (fun _ => rfl) (fun h => absurd h hc) fun _ _ => ⟨rfl, rfl⟩) hrd

/-- A 4-bit counter in its legal range steps without wrapping (R25, R26). -/
theorem toNat_succ {c : BitVec 4} (h : c.toNat ≤ 9) : (c + 1).toNat = c.toNat + 1 := by bv_omega

/-- A hunt attempt that is not the last goes on to the next one. -/
theorem inv_nextAttempt {s : State} (h : s.Inv) (hst : s.st = .hunt) (h9 : s.huntCnt.toNat ≠ 9) :
    (startRead { s with huntCnt := s.huntCnt + 1 }).Inv := by
  have hle := h.listed.hunt hst
  have hcnt : (s.huntCnt + 1).toNat ≤ 9 := by rw [toNat_succ hle]; omega
  exact inv_of_hunt hst h.payLegal (h.noResult hst) (h.cmdDone (.inl hst)) hcnt

/-! ### Storing a payload byte -/

theorem storeFrame_header {k : Fin 12} (hk : 2 ≤ k.val) (b : Byte) (s : State) :
    (storeFrame k b s).frame[0] = s.frame[0] ∧ (storeFrame k b s).frame[1] = s.frame[1] :=
  ⟨storeFrame_other k 0 b s fun e => by simp [e] at hk, storeFrame_other k 1 b s fun e => by simp [e] at hk⟩

/-- The byte stored at the offset after `n` extends the written offsets by one. -/
theorem storeFrame_written_next {s : State} {n : Nat} {k : Fin 12} (b : Byte) (hk : k.val = n + 1)
    (h : ∀ j : Fin 12, 2 ≤ j.val → j.val ≤ n → s.frameWritten[j] = true) :
    ∀ j : Fin 12, 2 ≤ j.val → j.val ≤ n + 1 → (storeFrame k b s).frameWritten[j] = true := by
  intro j h2 hj
  by_cases e : j = k
  · rw [e]; exact storeFrame_written_same k b s
  · have : j.val ≠ k.val := fun hv => e (Fin.ext hv)
    exact storeFrame_written_mono k j b s (h j h2 (by omega))

/-- Both header bytes and the ten payload offsets are the whole frame. -/
theorem written_all {w : Vector Bool 12} (h : w[0] = true ∧ w[1] = true)
    (hp : ∀ j : Fin 12, 2 ≤ j.val → j.val ≤ 11 → w[j] = true) (j : Fin 12) : w[j] = true := by
  obtain ⟨h0, h1⟩ := h
  by_cases h2 : 2 ≤ j.val
  · exact hp j h2 (by omega)
  · have : j = 0 ∨ j = 1 := by omega
    rcases this with rfl | rfl
    · exact h0
    · exact h1

/-! ### Every step keeps the invariant -/

/-- A start clears the results and enters CMD at its first byte (R102). -/
theorem inv_pollStart {s : State} (h : s.Inv) :
    State.Inv { clearResults (beginPoll (beginRule s)) with cmdIdx := 0, st := .cmd } :=
  inv_of_cmd rfl h.huntLegal h.payLegal ⟨rfl, ⟨rfl, rfl, rfl⟩, rfl, rfl⟩ (Nat.zero_le 6) rfl

/-- A command byte that is not the last leaves CMD at the next one (R104). -/
theorem inv_nextCommandByte {s : State} (b : Byte) (h : s.Inv) (hst : s.st = .cmd) (h6 : s.cmdIdx.toNat ≠ 6) :
    State.Inv { txPut b (beginRule s) with cmdIdx := s.cmdIdx + 1 } := by
  have hle := h.listed.cmd hst
  have hidx : (s.cmdIdx + 1).toNat ≤ 6 := by bv_omega
  exact inv_of_cmd hst h.huntLegal h.payLegal (h.noResult hst) hidx rfl

/-- The last command byte begins the hunt (R104). -/
theorem inv_huntStart {s : State} (b : Byte) (h : s.Inv) (hst : s.st = .cmd) (h6 : s.cmdIdx.toNat = 6) :
    (startRead { txPut b (beginRule s) with cmdIdx := s.cmdIdx + 1, huntCnt := 0, st := .hunt }).Inv := by
  have hidx : s.cmdIdx + 1 = 7 := by rw [(cmdIdx_eq_six_iff s).2 h6]; rfl
  exact inv_of_hunt rfl h.payLegal (h.noResult hst) hidx (Nat.zero_le 9)

/-- The first header byte is stored on the way to HDR1 (R105). -/
theorem inv_firstHeader {s : State} (h : s.Inv) (hst : s.st = .hunt) :
    State.Inv { startRead (storeFrame 0 0x42 (rxTake 0x42 s)) with st := .hdr1 } := by
  exact inv_of_hdr1 rfl h.huntLegal h.payLegal (h.noResult hst) (h.cmdDone (.inl hst))
    ⟨storeFrame_same 0 0x42 _, storeFrame_written_same 0 0x42 _⟩

/-- The second header byte is stored on the way to PAYLOAD, no payload byte yet (R109). -/
theorem inv_secondHeader {s : State} (h : s.Inv) (hst : s.st = .hdr1) :
    State.Inv { startRead (storeFrame 1 0x4D (rxTake 0x4D s)) with payCnt := 0, st := .payload } := by
  obtain ⟨hbyte, hwritten⟩ := h.hdr1 hst
  refine inv_of_payload rfl h.huntLegal (h.noResult hst) (h.cmdDone (.inr (.inl hst))) (Nat.zero_le 9)
    ((storeFrame_other 1 0 0x4D _ (by decide)).trans hbyte) (storeFrame_same 1 0x4D _)
    ⟨storeFrame_written_mono 1 0 0x4D _ hwritten, storeFrame_written_same 1 0x4D _⟩ fun j h2 hj => ?_
  have hle : j.val ≤ 1 := hj
  omega

section Payload

variable {s : State} {k : Fin 12} (b : Byte) (h : s.Inv) (hst : s.st = .payload)
  (hk : k.val = 2 + s.payCnt.toNat)

include h hst hk

/-- What PAYLOAD's bytes leave in the frame: the header, and one more payload offset written (R113). -/
theorem payload_store :
    ((storeFrame k b s).frame[0] = 0x42 ∧ (storeFrame k b s).frame[1] = 0x4D)
    ∧ ((storeFrame k b s).frameWritten[0] = true ∧ (storeFrame k b s).frameWritten[1] = true)
    ∧ ∀ j : Fin 12, 2 ≤ j.val → j.val ≤ 1 + s.payCnt.toNat + 1 → (storeFrame k b s).frameWritten[j] = true := by
  obtain ⟨_, h0, h1, hbytes⟩ := h.listed.payload hst
  obtain ⟨hw0, hw1⟩ := h.headerWritten hst
  obtain ⟨e0, e1⟩ := storeFrame_header (show 2 ≤ k.val by omega) b s
  exact ⟨⟨e0.trans h0, e1.trans h1⟩,
    ⟨storeFrame_written_mono k 0 b s hw0, storeFrame_written_mono k 1 b s hw1⟩,
    storeFrame_written_next b (by omega) hbytes⟩

/-- A byte before the tenth stays in PAYLOAD. -/
theorem inv_nextPayloadByte (h9 : s.payCnt.toNat < 9) :
    State.Inv { storeFrame k b (rxTake b (beginRule s)) with payCnt := s.payCnt + 1 } := by
  obtain ⟨⟨h0, h1⟩, hw, hbytes⟩ := payload_store b h hst hk
  have hsucc : (s.payCnt + 1).toNat = s.payCnt.toNat + 1 := toNat_succ (by omega)
  refine inv_of_payload hst h.huntLegal (h.noResult hst) (h.cmdDone (.inr (.inr (.inl hst))))
    (by simp only [hsucc]; omega) h0 h1 hw fun j h2 hj => hbytes j h2 ?_
  simp only [hsucc] at hj
  omega

/-- The tenth byte completes the frame and enters CHECK. -/
theorem inv_lastPayloadByte (h9 : s.payCnt.toNat = 9) :
    State.Inv { storeFrame k b (rxTake b (beginRule s)) with payCnt := s.payCnt + 1, st := .check } := by
  obtain ⟨⟨h0, h1⟩, hw, hbytes⟩ := payload_store b h hst hk
  have hten : (s.payCnt + 1).toNat = 10 := by rw [toNat_succ (by omega), h9]
  exact inv_of_check rfl h.huntLegal (h.noResult hst) (h.cmdDone (.inr (.inr (.inl hst)))) hten h0 h1
    (written_all hw fun j h2 hj => hbytes j h2 (by omega)) rfl

end Payload

/-- Every rule keeps the invariant. -/
theorem transition_inv {inp : Inputs} {s u : State} (h : s.Inv) (ht : Transition inp s u) : u.Inv := by
  cases ht with
  | idleWait | cmdStall | huntWait | hdr1Wait | payWait => exact h.beginRule
  | idleNolink | hdr1Mismatch | hdr1Timeout | payTimeout =>
    exact inv_finishFailed (by decide) h.huntLegal h.payLegal rfl
  | huntDiscardLast | huntTimeoutLast => exact inv_finishFailed (by decide) (Nat.le_refl 10) h.payLegal rfl
  | payByteShort _ _ k _ h9 =>
    have hcnt : (s.payCnt + 1).toNat ≤ 10 := by rw [toNat_succ (by omega)]; omega
    exact inv_finishFailed (by decide) h.huntLegal hcnt rfl
  | idleStart => exact inv_pollStart h
  | cmdSend hst _ h6 => exact inv_nextCommandByte s.cmdByte h hst h6
  | cmdSendLast hst _ h6 => exact inv_huntStart s.cmdByte h hst h6
  | huntMatch hst => exact inv_firstHeader h hst
  | huntDiscard hst _ _ h9 => exact inv_nextAttempt (h.beginRule.rxTake inp.rxData) hst h9
  | huntTimeout hst _ _ h9 => exact inv_nextAttempt h.beginRule hst h9
  | hdr1Match hst => exact inv_secondHeader h hst
  | payByte hst _ k hk h9 => exact inv_nextPayloadByte inp.rxData h hst hk h9
  | payByteLast hst _ k hk h9 => exact inv_lastPayloadByte inp.rxData h hst hk h9
  | checkPass _ hc =>
    exact inv_of_done rfl h.huntLegal h.payLegal
      (finish_agree _ (absurd rfl) (fun _ => hc) nofun (absurd rfl)) rfl
  | checkFail _ hc =>
    exact inv_of_done rfl h.huntLegal h.payLegal
      (finish_agree _ (fun _ => ⟨rfl, rfl, rfl⟩) nofun (fun _ => hc) fun _ hne => absurd rfl hne) rfl
  | doneRet hst => exact h.returnToIdle hst
  | illegalState hst => exact absurd hst h.listed.legal

/-- Settles O28: a reset cycle leaves the reset values, and every rule keeps the invariant. -/
theorem everyStepKeepsTheInvariant : Obligations.EveryStepKeepsTheInvariant := by
  intro s t h hs
  rcases step_inversion hs with ⟨_, rfl⟩ | ⟨_, u, hu, rfl⟩
  · exact (resetCycle_afterReset s.inputNow s).inv
  · exact (transition_inv h hu).endCycle

/-! ### The states reachable from reset -/

/-- The invariant holds along every run from reset. -/
theorem Reachable.inv {s : State} (h : Reachable s) : s.Inv := by
  induction h with
  | reset h0 => exact h0.inv
  | step _ hs ih => exact everyStepKeepsTheInvariant _ _ ih hs

/-- Settles O30: the list of R44 is the first part of the invariant. -/
theorem reachableStatesMeetTheList : Obligations.ReachableStatesMeetTheList := by
  intro s h
  obtain ⟨hcmd, hhunt, hpayload, hcheck, hlegal, hfirst⟩ := h.inv.listed
  exact ⟨hcmd, hhunt, hpayload, hcheck, hlegal, hfirst⟩

end Sys2Proof.Machine

namespace Sys2Proof.Machine

/-! ### What passed on the streams: the command bytes sent, the frame bytes received -/

/-- The first `n` bytes of the command are the last bytes transferred. -/
def State.Sent (s : State) (n : Nat) : Prop := ∃ before, s.txLog = before ++ cmdRom.take n

/-- The frame bytes at the first `n` offsets are the last bytes consumed, in order. -/
def State.Received (s : State) (n : Nat) : Prop := ∃ before, s.rxLog = before ++ s.frame.toList.take n

/-- Of no bytes nothing is asked: a poll starts so, whatever the records hold. -/
theorem sent_zero (s : State) : s.Sent 0 := ⟨s.txLog, (List.append_nil _).symm⟩

theorem received_zero (s : State) : s.Received 0 := ⟨s.rxLog, (List.append_nil _).symm⟩

/-- The command has seven bytes, so the first seven are all of it. -/
theorem sent_seven_iff (s : State) : s.Sent 7 ↔ ∃ before, s.txLog = before ++ cmdRom := Iff.rfl

theorem frame_take_one (f : Frame) : f.toList.take 1 = [f[0]] := by
  simp [List.take_one, List.head?_eq_getElem?]

theorem frame_take_twelve (f : Frame) : f.toList.take 12 = f.toList :=
  List.take_of_length_le (by simp)

theorem received_one_iff (s : State) : s.Received 1 ↔ ∃ before, s.rxLog = before ++ [s.frame[0]] := by
  rw [State.Received, frame_take_one]

theorem received_twelve_iff (s : State) : s.Received 12 ↔ ∃ before, s.rxLog = before ++ s.frame.toList := by
  rw [State.Received, frame_take_twelve]

/-- A byte written at offset `k` follows the bytes before it, which stay as they were. -/
theorem frame_take_set (f : Frame) (k : Fin 12) (b : Byte) :
    (f.set k b).toList.take (k.val + 1) = f.toList.take k.val ++ [b] := by
  have hk : k.val < (f.set k b).toList.length := by simp
  rw [List.take_succ_eq_append_getElem hk]
  simp [Vector.toList_set, List.take_set_of_le]

/-- Sending the command byte that is offered extends the command bytes sent by one (R104). -/
theorem State.Sent.txPut {s : State} (h : s.Sent s.cmdIdx.toNat) (hlt : s.cmdIdx.toNat < cmdRom.length) :
    (txPut s.cmdByte s).Sent (s.cmdIdx.toNat + 1) := by
  obtain ⟨before, htx⟩ := h
  refine ⟨before, ?_⟩
  rw [txPut_txLog, htx, cmdByte_eq hlt, List.take_succ_eq_append_getElem hlt, List.append_assoc]

/-- A byte consumed and stored at the next offset extends the frame bytes received by one
(R105, R109, R113). -/
theorem State.Received.store {s : State} {k : Fin 12} (h : s.Received k.val) (b : Byte) :
    (storeFrame k b (rxTake b s)).Received (k.val + 1) := by
  obtain ⟨before, hrx⟩ := h
  refine ⟨before, ?_⟩
  rw [storeFrame_rxLog, storeFrame_frame, rxTake_rxLog, rxTake_frame, frame_take_set, hrx, List.append_assoc]

/-! ### The agreement, by sequencer state: what StreamsAgree asks for in each of them -/

section ByState

variable {s : State}

theorem streamsAgree_of_done (hst : s.st = .done) : s.StreamsAgree := by
  constructor <;> simp [hst]

theorem streamsAgree_of_cmd (hst : s.st = .cmd) (htx : s.Sent s.cmdIdx.toNat) : s.StreamsAgree := by
  refine ⟨fun _ => htx, ?_, ?_, ?_, ?_⟩ <;> simp [hst]

section CommandSent

variable (htx : ∃ before, s.txLog = before ++ cmdRom)

include htx

theorem streamsAgree_of_hunt (hst : s.st = .hunt) : s.StreamsAgree := by
  refine ⟨?_, fun _ => htx, ?_, ?_, ?_⟩ <;> simp [hst]

theorem streamsAgree_of_hdr1 (hst : s.st = .hdr1) (hrx : s.Received 1) : s.StreamsAgree := by
  refine ⟨?_, fun _ => htx, fun _ => (received_one_iff s).1 hrx, ?_, ?_⟩ <;> simp [hst]

theorem streamsAgree_of_payload (hst : s.st = .payload) (hrx : s.Received (2 + s.payCnt.toNat)) :
    s.StreamsAgree := by
  refine ⟨?_, fun _ => htx, ?_, fun _ => hrx, ?_⟩ <;> simp [hst]

theorem streamsAgree_of_check (hst : s.st = .check) (hrx : s.Received 12) : s.StreamsAgree := by
  refine ⟨?_, fun _ => htx, ?_, ?_, fun _ => (received_twelve_iff s).1 hrx⟩ <;> simp [hst]

end CommandSent

end ByState

/-! ### Every step keeps the agreement -/

/-- A waiting rule keeps it: StreamsAgree does not read `rd_start_q`. -/
theorem State.StreamsAgree.beginRule {s : State} (h : s.StreamsAgree) : (beginRule s).StreamsAgree := { h with }

/-- The end of a cycle keeps it: StreamsAgree reads neither the plan of inputs nor the number of the cycle. -/
theorem State.StreamsAgree.endCycle {s : State} (h : s.StreamsAgree) : (endCycle s).StreamsAgree := { h with }

section Rules

variable {s : State} (h : s.StreamsAgree)

include h

/-- A command byte that is not the last is one more of the command (R104). -/
theorem streamsAgree_nextCommandByte (hst : s.st = .cmd) (hlt : s.cmdIdx.toNat < 6) :
    State.StreamsAgree { txPut s.cmdByte (beginRule s) with cmdIdx := s.cmdIdx + 1 } := by
  have hsent := State.Sent.txPut (h.cmd hst) (by rw [cmdRom_length]; omega)
  have hsucc : (s.cmdIdx + 1).toNat = s.cmdIdx.toNat + 1 := by bv_omega
  exact streamsAgree_of_cmd hst (hsucc ▸ hsent)

/-- The last command byte completes the command (R104). -/
theorem streamsAgree_huntStart (hst : s.st = .cmd) (h6 : s.cmdIdx.toNat = 6) :
    (startRead { txPut s.cmdByte (beginRule s) with
      cmdIdx := s.cmdIdx + 1, huntCnt := 0, st := .hunt }).StreamsAgree := by
  have hsent := State.Sent.txPut (h.cmd hst) (by rw [cmdRom_length]; omega)
  rw [h6] at hsent
  exact streamsAgree_of_hunt ((sent_seven_iff _).1 hsent) rfl

/-- The first header byte is the frame's first (R105). -/
theorem streamsAgree_firstHeader (hst : s.st = .hunt) :
    State.StreamsAgree { startRead (storeFrame 0 0x42 (rxTake 0x42 s)) with st := .hdr1 } :=
  streamsAgree_of_hdr1 (h.sent (.inl hst)) rfl (State.Received.store (k := 0) (received_zero s) 0x42)

/-- The second header byte follows the first (R109). -/
theorem streamsAgree_secondHeader (hst : s.st = .hdr1) :
    State.StreamsAgree { startRead (storeFrame 1 0x4D (rxTake 0x4D s)) with payCnt := 0, st := .payload } :=
  streamsAgree_of_payload (h.sent (.inr (.inl hst))) rfl
    (State.Received.store (k := 1) ((received_one_iff s).2 (h.hdr1 hst)) 0x4D)

section Payload

variable {k : Fin 12} (b : Byte) (hst : s.st = .payload) (hk : k.val = 2 + s.payCnt.toNat)

include hst hk

/-- A payload byte follows the frame bytes before it (R113). -/
theorem received_payloadByte : (storeFrame k b (rxTake b s)).Received (2 + s.payCnt.toNat + 1) := by
  have hrx : s.Received k.val := hk ▸ h.payload hst
  exact hk ▸ hrx.store b

theorem streamsAgree_nextPayloadByte (h9 : s.payCnt.toNat < 9) :
    State.StreamsAgree { storeFrame k b (rxTake b (beginRule s)) with payCnt := s.payCnt + 1 } := by
  have hsucc : (s.payCnt + 1).toNat = s.payCnt.toNat + 1 := toNat_succ (by omega)
  refine streamsAgree_of_payload (h.sent (.inr (.inr (.inl hst)))) hst ?_
  rw [hsucc]
  exact received_payloadByte h b hst hk

/-- The tenth payload byte completes the frame. -/
theorem streamsAgree_lastPayloadByte (h9 : s.payCnt.toNat = 9) :
    State.StreamsAgree { storeFrame k b (rxTake b (beginRule s)) with payCnt := s.payCnt + 1, st := .check } := by
  have hrx := received_payloadByte h b hst hk
  rw [h9] at hrx
  exact streamsAgree_of_check (h.sent (.inr (.inr (.inl hst)))) rfl hrx

end Payload

end Rules

/-- Every rule keeps the agreement. -/
theorem transition_streamsAgree {inp : Inputs} {s u : State} (hinv : s.Inv) (h : s.StreamsAgree)
    (ht : Transition inp s u) : u.StreamsAgree := by
  cases ht with
  | idleWait | cmdStall | huntWait | hdr1Wait | payWait => exact h.beginRule
  | idleNolink | huntDiscardLast | huntTimeoutLast | hdr1Mismatch | hdr1Timeout | payByteShort | payTimeout
  | checkPass | checkFail => exact streamsAgree_of_done rfl
  | doneRet | illegalState => exact streamsAgree_of_idle rfl
  | idleStart => exact streamsAgree_of_cmd rfl (sent_zero s)
  | cmdSend hst _ h6 =>
    have hle := hinv.listed.cmd hst
    exact streamsAgree_nextCommandByte h hst (by omega)
  | cmdSendLast hst _ h6 => exact streamsAgree_huntStart h hst h6
  | huntMatch hst => exact streamsAgree_firstHeader h hst
  | huntDiscard hst | huntTimeout hst => exact streamsAgree_of_hunt (h.sent (.inl hst)) hst
  | hdr1Match hst => exact streamsAgree_secondHeader h hst
  | payByte hst _ k hk h9 => exact streamsAgree_nextPayloadByte h inp.rxData hst hk h9
  | payByteLast hst _ k hk h9 => exact streamsAgree_lastPayloadByte h inp.rxData hst hk h9

/-- Settles O33: a reset cycle leaves IDLE, where nothing is asked of the streams, and every rule keeps the
agreement. -/
theorem everyStepKeepsTheStreams : Obligations.EveryStepKeepsTheStreams := by
  intro s t hinv h hs
  rcases step_inversion hs with ⟨_, rfl⟩ | ⟨_, u, hu, rfl⟩
  · exact streamsAgree_of_idle rfl
  · exact (transition_streamsAgree hinv h hu).endCycle

end Sys2Proof.Machine

namespace Sys2Proof.Machine

/-! ### The decoder on an arbitrary step word (R73, R74) -/

/-- Every step word is the step word of a cycle: of the state and the inputs that its fields name (R73). -/
theorem stepWord_fields (w : StepWord) : stepWord (SeqState.ofCode (fieldSt w)) (inputsOfWord w) = w := by
  simp only [stepWord, inputsOfWord, code_ofCode, packWord_fields]

/-- The decoder's answer on any word, by the prose of R75: in particular no word is refused. -/
theorem decode_eq_selected (w : StepWord) :
    decode w = .ok (selected (SeqState.ofCode (fieldSt w)) (inputsOfWord w)) := by
  rw [← decode_stepWord, stepWord_fields]

/-- The selected instruction keeps every bit of the step word: its row's matched bits and its own fields. -/
theorem encode_selected (st : SeqState) (inp : Inputs) : encode (selected st inp) = stepWord st inp := by
  cases st with
  | idle | cmd | hunt | hdr1 | payload =>
    simp only [selected]
    repeat' split
    all_goals simp_all [encode, stepWord, SeqState.code]
  | check | done | unused7 => rfl

/-- Rows 7 and 11 are selected only for the data that rows 6 and 10 leave them (R74). -/
theorem wellFormed_selected (st : SeqState) (inp : Inputs) : (selected st inp).wellFormed = true := by
  cases st with
  | hunt | hdr1 =>
    simp only [selected]
    repeat' split
    all_goals simp_all [Instr.wellFormed]
  | idle | cmd | payload =>
    simp only [selected]
    repeat' split
    all_goals rfl
  | check | done | unused7 => rfl

/-- Settles O27: the instruction is the one that the word's fields select. -/
theorem encodeOfDecodeIsTheWord : Obligations.EncodeOfDecodeIsTheWord := fun w =>
  ⟨_, decode_eq_selected w, wellFormed_selected _ _, (encode_selected _ _).trans (stepWord_fields w)⟩

/-- A well-formed instruction is the one that the fields of its encoding select. -/
theorem selected_encode (i : Instr) (h : i.wellFormed = true) :
    selected (SeqState.ofCode (fieldSt (encode i))) (inputsOfWord (encode i)) = i := by
  cases i with
  | huntDiscard d t r l s | hdr1Mismatch d t r l s =>
    simp_all [encode, inputsOfWord, SeqState.ofCode, selected, Instr.wellFormed]
  | _ => simp [encode, inputsOfWord, SeqState.ofCode, selected]

/-- Settles O26, by `decode_eq_selected` and `selected_encode`. -/
theorem decodeOfEncodeIsTheInstruction : Obligations.DecodeOfEncodeIsTheInstruction := fun i h =>
  (decode_eq_selected (encode i)).trans (congrArg Except.ok (selected_encode i h))

/-- Settles O23: the fields read back what `stepWord` packs. -/
theorem stepWordLayout : Obligations.StepWordLayout := by
  rintro st inp w rfl
  exact ⟨fieldSt_packWord .., fieldS_packWord .., fieldL_packWord .., fieldR_packWord .., fieldV_packWord ..,
    fieldT_packWord .., fieldD_packWord ..⟩

/-- Settles O24: the decoder evaluates on each word. -/
theorem writtenOutWordsDecode : Obligations.WrittenOutWordsDecode :=
  ⟨rfl, rfl, rfl, rfl, rfl, rfl, rfl, rfl, rfl, rfl, rfl, rfl, rfl⟩

end Sys2Proof.Machine

namespace Sys2Proof.Machine

/-! ### The table: first match, total, and which rows overlap (R74) -/

/-- What a smaller mask reads is decided by what a larger one reads. -/
theorem and_eq_of_and_eq {w m p m' p' : StepWord} (h : w &&& m = p) (hm : m &&& m' = m') (hp : p &&& m' = p') :
    w &&& m' = p' := by
  rw [← hm, ← BitVec.and_assoc, h, hp]

/-- The two rows ask for the same bits where both masks look; otherwise no word matches both. -/
def rowsCompatible (r q : Row) : Bool := r.matchBits &&& q.mask == q.matchBits &&& r.mask

theorem rowsCompatible_of_match {r q : Row} {w : StepWord} (hr : w &&& r.mask = r.matchBits)
    (hq : w &&& q.mask = q.matchBits) : rowsCompatible r q = true := by
  rw [rowsCompatible, ← hr, ← hq, BitVec.and_assoc, BitVec.and_assoc, BitVec.and_comm r.mask]
  exact beq_self_eq_true _

/-- Rows 6 and 7 and rows 10 and 11 (numbered from 0 here) are the only pairs a word can match. -/
theorem compatible_rows : ∀ m n : Fin 19, m < n →
    rowsCompatible (table[m.val]'m.isLt) (table[n.val]'n.isLt) = true →
    (m.val, n.val) = (5, 6) ∨ (m.val, n.val) = (9, 10) := by decide

/-- The decoder's answer comes from the first row that matches. -/
theorem decode_eq_ok_iff (w : StepWord) (i : Instr) : decode w = .ok i ↔
    ∃ row, table.find? (fun row => row.hits w) = some row ∧ row.build w = i := by
  unfold decode
  cases table.find? (fun row => row.hits w) <;> simp

theorem hits_iff (row : Row) (w : StepWord) : row.hits w = true ↔ w &&& row.mask = row.matchBits := beq_iff_eq

/-- Every word has a first matching row, and the decoder answers what it builds. -/
theorem first_match_decodes (w : StepWord) :
    ∃ (n : Fin 19) (row : Row), table[n.val]? = some row ∧ w &&& row.mask = row.matchBits
      ∧ decode w = .ok (row.build w)
      ∧ ∀ (m : Nat) (r : Row), m < n.val → table[m]? = some r → ¬ w &&& r.mask = r.matchBits := by
  obtain ⟨row, hfind, hbuild⟩ := (decode_eq_ok_iff w _).1 (decode_eq_selected w)
  obtain ⟨hhit, n, hn, hrow, hfirst⟩ := List.find?_eq_some_iff_getElem.1 hfind
  refine ⟨⟨n, hn⟩, row, List.getElem?_eq_some_iff.2 ⟨hn, hrow⟩, (hits_iff row w).1 hhit,
    (decode_eq_ok_iff w _).2 ⟨row, hfind, rfl⟩, fun m r hm hr hmatch => ?_⟩
  obtain ⟨_, rfl⟩ := List.getElem?_eq_some_iff.1 hr
  have hno := hfirst m hm
  rw [(hits_iff _ w).2 hmatch] at hno
  cases hno

/-- Settles O25: the first match by `first_match_decodes`, the overlaps by `compatible_rows`. -/
theorem tableIsTotalAndFirstMatchDecodes : Obligations.TableIsTotalAndFirstMatchDecodes := by
  refine ⟨by decide, fun w => ⟨first_match_decodes w, fun h => and_eq_of_and_eq h rfl rfl,
    fun h => and_eq_of_and_eq h rfl rfl, fun m n r q hmn hr hq hwr hwq => ?_⟩⟩
  obtain ⟨hm, rfl⟩ := List.getElem?_eq_some_iff.1 hr
  obtain ⟨hn, rfl⟩ := List.getElem?_eq_some_iff.1 hq
  exact compatible_rows ⟨m, hm⟩ ⟨n, hn⟩ hmn (rowsCompatible_of_match hwr hwq)

end Sys2Proof.Machine

namespace Sys2Proof.Machine

/-! ### The effect of a cycle, by state: what each state looks at (R75) -/

theorem exec_selected_idle (inp : Inputs) (s : State) : exec (selected .idle inp) s =
    if inp.start then if inp.linkOpen then execIdleStart s else execIdleNolink s else execIdleWait s := by
  simp only [selected]
  repeat' split
  all_goals rfl

theorem exec_selected_cmd (inp : Inputs) (s : State) : exec (selected .cmd inp) s =
    if inp.txReady then execCmdSend s else execCmdStall s := by
  simp only [selected]
  split <;> rfl

theorem exec_selected_hunt (inp : Inputs) (s : State) : exec (selected .hunt inp) s =
    if inp.rxValid then if inp.rxData = 0x42 then execHuntMatch s else execHuntDiscard inp.rxData s
    else if inp.rdTimeout then execHuntTimeout s else execHuntWait s := by
  simp only [selected]
  repeat' split
  all_goals rfl

theorem exec_selected_hdr1 (inp : Inputs) (s : State) : exec (selected .hdr1 inp) s =
    if inp.rxValid then if inp.rxData = 0x4D then execHdr1Match s else execHdr1Mismatch inp.rxData s
    else if inp.rdTimeout then execHdr1Timeout s else execHdr1Wait s := by
  simp only [selected]
  repeat' split
  all_goals rfl

theorem exec_selected_payload (inp : Inputs) (s : State) : exec (selected .payload inp) s =
    if inp.rxValid then execPayByte inp.rxData inp.rdTimeout s
    else if inp.rdTimeout then execPayTimeout s else execPayWait s := by
  simp only [selected]
  repeat' split
  all_goals rfl

/-- The end of the cycle drops this cycle's inputs, so only their effect through the rule remains. -/
theorem closeCycle_withStimulus_cons (o : Host.Outcome State Fault Refusal) (i j : Inputs) (rest : List Inputs) :
    closeCycle (withStimulus (i :: rest) o) = closeCycle (withStimulus (j :: rest) o) := by
  cases o <;> rfl

/-- Settles O22: inputs that agree on what the state looks at select rules with one effect. -/
theorem ignoredInputsHaveNoEffect : Obligations.IgnoredInputsHaveNoEffect := by
  intro s i j rest hi hj hidle hcmd hread hpayload
  have heffect : exec (selected s.st i) s = exec (selected s.st j) s := by
    cases hst : s.st with
    | idle =>
      obtain ⟨hstart, hlink⟩ := hidle hst
      rw [exec_selected_idle, exec_selected_idle, ← hstart]
      exact ite_congr rfl (fun hs => by rw [hlink hs]) fun _ => rfl
    | cmd => rw [exec_selected_cmd, exec_selected_cmd, hcmd hst]
    | hunt | hdr1 =>
      obtain ⟨hvalid, hdata, htime⟩ := hread (by simp [hst])
      simp only [exec_selected_hunt, exec_selected_hdr1, ← hvalid]
      exact ite_congr rfl (fun hv => by rw [hdata hv]) fun hv => by rw [htime (by simpa using hv)]
    | payload =>
      obtain ⟨hvalid, htime, hdata⟩ := hpayload hst
      rw [exec_selected_payload, exec_selected_payload, ← hvalid, ← htime]
      exact ite_congr rfl (fun hv => by rw [hdata hv]) fun _ => rfl
    | check | done | unused7 => rfl
  rw [step_planned_eq s i rest hi, step_planned_eq s j rest hj, heffect]
  exact closeCycle_withStimulus_cons _ i j rest

/-! ### Waiting cycles and the seven takings of the command (R103, R104) -/

/-- In state `st` the inputs select a waiting rule, and no reset. -/
def Waits (st : SeqState) (inp : Inputs) : Prop :=
  inp.rst = false ∧ ∀ s : State, exec (selected st inp) s = .next (beginRule s)

/-- `n` waiting cycles: the plan goes on, and after the first of them `rd_start_q` is 0 (R13). -/
def waited (n : Nat) (rest : List Inputs) (s : State) : State :=
  { s with rdStartQ := s.rdStartQ && n == 0, stimulus := rest, cycle := s.cycle + n }

theorem waited_zero (s : State) : waited 0 s.stimulus s = s := by simp [waited]

theorem waited_waited_one (n : Nat) (r r' : List Inputs) (s : State) :
    waited n r' (waited 1 r s) = waited (n + 1) r' s := by
  simp [waited, Nat.add_assoc, Nat.add_comm 1]

theorem runFor_one (s : State) : runFor 1 s = step s := by
  rw [runFor]
  cases step s <;> rfl

/-- One planned waiting cycle. -/
theorem step_waits {s : State} {inp : Inputs} {rest : List Inputs} (hw : Waits s.st inp)
    (hs : s.stimulus = inp :: rest) : step s = .next (waited 1 rest s) := by
  obtain ⟨hrst, hexec⟩ := hw
  rw [step_planned hs hrst (hexec s)]
  simp [waited, beginRule]

/-- A run over planned waiting cycles, in any state. -/
theorem runFor_waits {s : State} {waits rest : List Inputs} (hw : ∀ i ∈ waits, Waits s.st i)
    (hs : s.stimulus = waits ++ rest) : runFor waits.length s = .next (waited waits.length rest s) := by
  induction waits generalizing s with
  | nil =>
    obtain rfl : s.stimulus = rest := hs
    rw [List.length_nil, runFor_zero, waited_zero]
  | cons i waits ih =>
    obtain ⟨hi, hmore⟩ := List.forall_mem_cons.1 hw
    rw [List.length_cons, runFor_succ_of_step _ (step_waits (rest := waits ++ rest) hi hs),
      ih (s := waited 1 (waits ++ rest) s) hmore rfl, waited_waited_one]

/-- A run over the cycles of a span: its waits, then the rule that its last cycle selects. -/
theorem runFor_span {s : State} {a : Span} {rest : List Inputs} (hw : ∀ i ∈ a.waits, Waits s.st i)
    (hrst : a.last.rst = false) (hs : s.stimulus = a.cycles ++ rest) : runFor a.cycles.length s
      = closeCycle (exec (selected s.st a.last) (waited a.waits.length (a.last :: rest) s)) := by
  have hplan : s.stimulus = a.waits ++ a.last :: rest := by rw [hs, Span.cycles, List.append_assoc]; rfl
  have hlast : step (waited a.waits.length (a.last :: rest) s)
      = closeCycle (exec (selected s.st a.last) (waited a.waits.length (a.last :: rest) s)) :=
    step_of_not_rst hrst
  rw [Span.cycles, List.length_append, runFor_add _ _ (runFor_waits hw hplan), ← hlast]
  exact runFor_one _

@[simp] theorem spanCycles_cons (a : Span) (as : List Span) : spanCycles (a :: as) = a.cycles ++ spanCycles as := rfl

@[simp] theorem Span.length_cycles (a : Span) : a.cycles.length = a.waits.length + 1 := by simp [Span.cycles]

/-- A stall of the sink waits (R103). -/
theorem waits_of_stall {inp : Inputs} (hrst : inp.rst = false) (hready : inp.txReady = false) : Waits .cmd inp :=
  ⟨hrst, fun s => by rw [exec_selected_cmd, hready]; rfl⟩

theorem isTransmit_iff (a : Span) : a.isTransmit = true ↔
    (∀ i ∈ a.waits, i.rst = false ∧ i.txReady = false) ∧ a.last.rst = false ∧ a.last.txReady = true := by
  simp [Span.isTransmit, Span.fits]

/-- The byte offered does not change while the sink stalls (R103). -/
theorem cmdByte_waited {s : State} (n : Nat) (rest : List Inputs) (h : s.cmdIdx.toNat < cmdRom.length) :
    (waited n rest s).cmdByte = s.cmdByte :=
  (cmdByte_eq (s := waited n rest s) h).trans (cmdByte_eq h).symm

/-- The bytes still to send are the one offered and those after it. -/
theorem drop_cmdIdx {s : State} (h : s.cmdIdx.toNat < cmdRom.length) :
    cmdRom.drop s.cmdIdx.toNat = s.cmdByte :: cmdRom.drop (s.cmdIdx.toNat + 1) := by
  rw [List.drop_eq_getElem_cons h, cmdByte_eq h]

/-- The state after `n` cycles in which the byte at `cmd_idx` was offered and taken (R104). -/
def byteSent (n : Nat) (rest : List Inputs) (s : State) : State :=
  { s with
    rdStartQ := false
    cmdIdx := s.cmdIdx + 1
    txLog := s.txLog ++ [s.cmdByte]
    stimulus := rest
    cycle := s.cycle + n }

theorem byteSent_cmdIdx_toNat {s : State} (n : Nat) (rest : List Inputs) (h : s.cmdIdx.toNat < 7) :
    (byteSent n rest s).cmdIdx.toNat = s.cmdIdx.toNat + 1 := by
  change (s.cmdIdx + 1).toNat = _
  bv_omega

section Transmit

variable {s : State} {a : Span} {rest : List Inputs}
  (hst : s.st = .cmd) (ha : a.isTransmit = true) (hs : s.stimulus = a.cycles ++ rest)
include hst ha hs

/-- A span of stalls and a taking runs CMD_SEND once. -/
theorem runFor_transmit :
    runFor a.cycles.length s = closeCycle (execCmdSend (waited a.waits.length (a.last :: rest) s)) := by
  obtain ⟨hwaits, hrst, hready⟩ := (isTransmit_iff a).1 ha
  have hw : ∀ i ∈ a.waits, Waits s.st i := fun i hi => hst ▸ waits_of_stall (hwaits i hi).1 (hwaits i hi).2
  rw [runFor_span hw hrst hs, hst, exec_selected_cmd, hready]
  rfl

/-- One of the first six takings. -/
theorem runFor_transmit_next (h : s.cmdIdx.toNat < 6) :
    runFor a.cycles.length s = .next (byteSent a.cycles.length rest s) := by
  rw [runFor_transmit hst ha hs]
  rcases execCmdSend_cases (waited a.waits.length (a.last :: rest) s) with ⟨h6, _⟩ | ⟨_, e⟩
  · exact absurd h6 h.ne
  · rw [e, cmdByte_waited _ _ (h.trans (by decide)), Span.length_cycles]
    rfl

/-- The seventh taking: the first hunt attempt begins. -/
theorem runFor_transmit_last (h : s.cmdIdx.toNat = 6) : runFor a.cycles.length s
    = .next { byteSent a.cycles.length rest s with st := .hunt, huntCnt := 0, rdStartQ := true } := by
  rw [runFor_transmit hst ha hs]
  rcases execCmdSend_cases (waited a.waits.length (a.last :: rest) s) with ⟨_, e⟩ | ⟨h6, _⟩
  · rw [e, cmdByte_waited _ _ (h.trans_lt (by decide)), Span.length_cycles]
    rfl
  · exact absurd h h6

end Transmit

/-- From any `cmd_idx` in CMD, as many takings as bytes are left transfer the rest of the command. -/
theorem runFor_transmits {sends : List Span} {s : State} {rest : List Inputs} (hst : s.st = .cmd)
    (hidx : s.cmdIdx.toNat < 7) (hlen : s.cmdIdx.toNat + sends.length = 7)
    (ha : ∀ a ∈ sends, a.isTransmit = true) (hs : s.stimulus = spanCycles sends ++ rest) :
    runFor (spanCycles sends).length s = .next { s with
      st := .hunt, cmdIdx := 7, huntCnt := 0, rdStartQ := true, txLog := s.txLog ++ cmdRom.drop s.cmdIdx.toNat
      stimulus := rest, cycle := s.cycle + (spanCycles sends).length } := by
  induction sends generalizing s with
  | nil => exact absurd hlen hidx.ne
  | cons a sends ih =>
    obtain ⟨hfirst, hmore⟩ := List.forall_mem_cons.1 ha
    rw [spanCycles_cons, List.append_assoc] at hs
    rw [List.length_cons] at hlen
    rw [spanCycles_cons, List.length_append, drop_cmdIdx hidx]
    by_cases h6 : s.cmdIdx.toNat = 6
    · obtain rfl : sends = [] := List.length_eq_zero_iff.1 (by omega)
      have hseven : s.cmdIdx + 1 = 7 := by bv_omega
      rw [runFor_add _ _ (runFor_transmit_last hst hfirst hs h6), byteSent, hseven, h6]
      rfl
    · have hnext := byteSent_cmdIdx_toNat a.cycles.length (spanCycles sends ++ rest) hidx
      rw [runFor_add _ _ (runFor_transmit_next hst hfirst hs (by omega)),
        ih (s := byteSent a.cycles.length (spanCycles sends ++ rest) s) hst (by omega) (by omega) hmore rfl, hnext]
      simp only [byteSent, List.append_assoc, List.singleton_append, Nat.add_assoc]

/-- Settles O40, by `runFor_transmits` from `cmd_idx` 0. -/
theorem commandIsSentWhole : Obligations.CommandIsSentWhole := by
  intro s sends rest hst hidx hlen ha hs
  have hzero : s.cmdIdx.toNat = 0 := by rw [hidx]; rfl
  have h := runFor_transmits hst (by omega) (by omega) ha hs
  rwa [hzero] at h

end Sys2Proof.Machine

namespace Sys2Proof.Machine

/-! ### Bytes on a bus (R81, R82, R160) -/

/-- BE16 is concatenation (R160, R10). -/
theorem be16_eq_append (hi lo : Byte) : be16 hi lo = hi ++ lo := by
  apply BitVec.eq_of_toNat_eq
  rw [be16, BitVec.toNat_append, ← Nat.shiftLeft_add_eq_or_of_lt lo.isLt, Nat.shiftLeft_eq, BitVec.toNat_ofNat]
  exact Nat.mod_eq_of_lt (by omega)

/-- Two neighbouring bytes of a bus are one 16-bit slice of it. -/
theorem be16_extractLsb' {w : Nat} (b : BitVec w) (n : Nat) :
    be16 (b.extractLsb' (n + 8) 8) (b.extractLsb' n 8) = b.extractLsb' n 16 := by
  rw [be16_eq_append, BitVec.extractLsb'_append_extractLsb'_eq_extractLsb' rfl]

/-- A slice of a slice. -/
theorem extractLsb'_of_slice {w start len start' len' : Nat} (b : BitVec w) (h : start + len ≤ len') :
    (b.extractLsb' start' len').extractLsb' start len = b.extractLsb' (start' + start) len := by
  apply BitVec.eq_of_getLsbD_eq
  intro i hi
  simp [hi, show start + i < len' by omega, Nat.add_assoc]

/-- Byte `k` of the frame on the 96-bit bus (R81). -/
theorem extractLsb'_packFrame (f : Frame) (k : Fin 12) : (packFrame f).extractLsb' (88 - 8 * k.val) 8 = f[k] := by
  change BitVec.extractLsb' (n := 8 + 8 + 8 + 8 + 8 + 8 + 8 + 8 + 8 + 8 + 8 + 8) _ _
    (f[0] ++ f[1] ++ f[2] ++ f[3] ++ f[4] ++ f[5] ++ f[6] ++ f[7] ++ f[8] ++ f[9] ++ f[10] ++ f[11]) = f[k]
  fin_cases k <;>
    simp (disch := omega) only [BitVec.extractLsb'_append_eq_of_le, BitVec.extractLsb'_append_eq_of_add_le] <;>
    exact BitVec.extractLsb'_eq_self

theorem unpackFrame_packFrame (f : Frame) : unpackFrame (packFrame f) = f := by
  apply Vector.ext
  intro k hk
  rw [unpackFrame, Vector.getElem_ofFn]
  exact extractLsb'_packFrame f ⟨k, hk⟩

theorem getElem_window (f : Frame) (j : Fin 6) : (window f)[j] = f[4 + j.val] := by
  fin_cases j <;> rfl

/-- The window as it comes off the frame bus (R82). -/
theorem unpackWindow_slice (f : Frame) : unpackWindow ((packFrame f).extractLsb' 16 48) = window f := by
  apply Vector.ext
  intro j hj
  rw [unpackWindow, Vector.getElem_ofFn, extractLsb'_of_slice _ (by omega)]
  have hbyte := extractLsb'_packFrame f ⟨4 + j, by omega⟩
  rw [show 16 + (40 - 8 * j) = 88 - 8 * (4 + j) by omega]
  exact hbyte.trans (getElem_window f ⟨j, hj⟩).symm

theorem packWindow_unpackWindow (b : BitVec 48) : packWindow (unpackWindow b) = b := by
  have hbytes : packWindow (unpackWindow b) = b.extractLsb' 40 8 ++ b.extractLsb' 32 8 ++ b.extractLsb' 24 8
      ++ b.extractLsb' 16 8 ++ b.extractLsb' 8 8 ++ b.extractLsb' 0 8 := by
    simp [packWindow, unpackWindow]
  rw [hbytes]
  simp only [BitVec.extractLsb'_append_extractLsb'_eq_extractLsb']
  exact BitVec.extractLsb'_eq_self

/-- The packed window is a slice of the frame bus (R81, R82). -/
theorem packWindow_window (f : Frame) : packWindow (window f) = (packFrame f).extractLsb' 16 48 := by
  rw [← unpackWindow_slice, packWindow_unpackWindow]

/-- The value of two neighbouring frame bytes is a slice of the frame bus. -/
theorem be16_frame (f : Frame) {j k : Fin 12} (hk : k.val = j.val + 1) :
    be16 f[j] f[k] = (packFrame f).extractLsb' (88 - 8 * k.val) 16 := by
  rw [← extractLsb'_packFrame f j, ← extractLsb'_packFrame f k, ← be16_extractLsb',
    show 88 - 8 * k.val + 8 = 88 - 8 * j.val by omega]

/-- Settles O38: both unpackings undo their packings, and bytes and values are slices. -/
theorem standAloneUnitsAgree : Obligations.StandAloneUnitsAgree := by
  intro f
  refine ⟨?_, ?_, extractLsb'_packFrame f, packWindow_window f, be16_frame f (j := 4) (k := 5) rfl,
    be16_frame f (j := 6) (k := 7) rfl, be16_frame f (j := 8) (k := 9) rfl⟩
  · rw [csvUnit, unpackFrame_packFrame]
  · rw [fxUnit, packWindow_window, unpackWindow_slice]

/-! ### Stimulus lines (R79 to R81) -/

/-- A step word is its `rx_data` and its low byte, as one number (R73). -/
theorem packWord_eq_be16 (d : Byte) (t v r l s : Bool) (st : BitVec 3) :
    packWord d t v r l s st = be16 d (packLow t v r l s st) := by
  rw [packWord_eq_append, be16_eq_append]

/-- The lines that send bytes, one cycle per byte (R80). -/
theorem expandFrom_rx (link : Bool) (bs : List Byte) :
    expandFrom link (bs.map Line.rx) = (bs.map rxCycle).map fun a => a.inputs link := by
  induction bs with
  | nil => rfl
  | cons b bs ih => exact congrArg (List.cons _) ih

theorem expand_rxs (bs : List Byte) : expand [.rxs bs] = expand (bs.map Line.rx) :=
  (List.append_nil _).trans (expandFrom_rx true bs).symm

theorem expand_idle (n : Nat) : (expand [.idle n]).map cycleEncoding = List.replicate n 0x0010 := by
  have h : expand [.idle n] = List.replicate n (CycleArgs.inputs true {}) :=
    (List.append_nil _).trans List.map_replicate
  rw [h, List.map_replicate]
  rfl

theorem be16_highByte_lowByte (v : Value) : be16 (highByte v) (lowByte v) = v :=
  (be16_extractLsb' v 0).trans BitVec.extractLsb'_eq_self

/-- `FRAME` carries the checksum that its ten bytes sum to (R81, R140). -/
theorem csok_frame (a b c : Value) : csok (framexBytes 0 0 a b c (frameChecksum a b c)) = true := by
  have hrx : csrx (framexBytes 0 0 a b c (frameChecksum a b c)) = frameChecksum a b c := be16_highByte_lowByte _
  rw [csok, hrx]
  exact beq_self_eq_true _

/-- A cycle that presents the byte `b`, with the timeout `t` and the link as given (R80). -/
theorem cycleEncoding_rxCycle (link t : Bool) (b : Byte) :
    cycleEncoding ({ rxCycle b with rdTimeout := t }.inputs link) = be16 b (packLow t true false link false 0) :=
  packWord_eq_be16 ..

/-- Settles O39: the lines with fixed cycles evaluate; those with a byte encode by `cycleEncoding_rxCycle`. -/
theorem stimulusLinesEncodeAsTabled : Obligations.StimulusLinesEncodeAsTabled := by
  refine ⟨expand_idle, rfl, rfl, rfl, fun b => ?_, expand_rxs, rfl, fun b => ?_, rfl, fun b => ?_,
    fun b2 b3 a b c cs => rfl, fun a b c => ⟨rfl, csok_frame a b c⟩⟩
  · exact congrArg (fun w => [w]) (cycleEncoding_rxCycle true false b)
  · exact congrArg (fun w => [w]) (cycleEncoding_rxCycle true true b)
  · exact congrArg₂ (fun v w => [0x0008, v, w]) (cycleEncoding_rxCycle false false b)
      (cycleEncoding_rxCycle true false b)

end Sys2Proof.Machine

namespace Sys2Proof.Machine

/-! ### The meanings of the rules, one obligation per rule family (R100 to R118) -/

/-- A counter steps by one, in its own width. -/
theorem add_one_eq_ofNat {w : Nat} (c : BitVec w) : c + 1 = BitVec.ofNat w (c.toNat + 1) := by
  rw [BitVec.ofNat_add, BitVec.ofNat_toNat, BitVec.setWidth_eq]; rfl

/-- Settles O1: the selection is `decode_stepWord`, and a waiting rule is `beginRule`. -/
theorem waitingRulesKeepEverything : Obligations.WaitingRulesKeepEverything := by
  refine ⟨fun inp hs => ?_, fun inp hr => ?_, fun inp hv ht => ⟨?_, ?_, ?_⟩,
    fun s d t v r l b => ⟨rfl, rfl, rfl, rfl, rfl⟩, fun s => rfl⟩
  · simp [decode_stepWord, selected, hs]
  · simp [decode_stepWord, selected, hr]
  all_goals simp [decode_stepWord, selected, hv, ht]

/-- Settles O2: the meaning is `finish` with TRANSPORT_UNAVAILABLE. -/
theorem noLinkRecordsUnavailable : Obligations.NoLinkRecordsUnavailable := by
  refine ⟨fun inp hs hl => ?_, fun s d t v r => ⟨_, rfl, rfl, rfl, rfl⟩⟩
  simp [decode_stepWord, selected, hs, hl]

/-- Settles O3: the meaning clears the results, and the first byte offered is `CMD_ROM[0]`. -/
theorem startClearsResultsAndEntersCmd : Obligations.StartClearsResultsAndEntersCmd := by
  refine ⟨fun inp hs hl => ?_, fun s d t v r => ⟨_, rfl, rfl, rfl, rfl, rfl, rfl⟩⟩
  simp [decode_stepWord, selected, hs, hl]

/-- The byte offered in CMD, as the statements write `CMD_ROM` out (R34). -/
theorem cmdByte_of_cmdIdx {s : State} {k : Fin 7} (hk : s.cmdIdx.toNat = k.val) :
    s.cmdByte = (#v[0x42, 0x4D, 0xE3, 0x00, 0x00, 0x01, 0x72] : Vector Byte 7)[k] := by
  rw [cmdByte_eq (hk ▸ k.isLt), ← cmdRom_getElem]
  exact getElem_congr_idx hk

/-- Settles O4, by the two cases of CMD_SEND. -/
theorem sendTransfersTheCommandByte : Obligations.SendTransfersTheCommandByte := by
  refine ⟨fun inp hr => ?_, fun s d t v l b k hk => ?_⟩
  · simp [decode_stepWord, selected, hr]
  have hbyte := cmdByte_of_cmdIdx hk
  refine ⟨fun hst => (txData_of_cmd hst).trans hbyte, fun hlt => ?_, fun h6 => ?_⟩
  · rcases execCmdSend_cases s with ⟨h6, _⟩ | ⟨_, e⟩
    · omega
    · rw [exec, e, hbyte, add_one_eq_ofNat, hk]; rfl
  · obtain rfl : k = 6 := Fin.ext h6
    rcases execCmdSend_cases s with ⟨_, e⟩ | ⟨hne, _⟩
    · rw [exec, e, hbyte, add_one_eq_ofNat, hk]; rfl
    · exact absurd hk hne

/-- Settles O5: a match is stored under its frame offset and begins the next read. -/
theorem headerBytesAreStored : Obligations.HeaderBytesAreStored := by
  refine ⟨fun inp hv hd => ?_, fun inp hv hd => ?_, fun s t r l b => ⟨rfl, rfl⟩⟩
  all_goals simp [decode_stepWord, selected, hv, hd]

/-- With `hunt_cnt` 9 a failed attempt is the tenth: HEADER_LOST. -/
theorem failAttempt_of_nine {s : State} (h : s.huntCnt.toNat = 9) :
    failAttempt s = finishFailed .headerLost { s with huntCnt := 10 } := by
  rcases failAttempt_cases s with ⟨_, e⟩ | ⟨hne, _⟩
  · exact e
  · exact absurd h hne

/-- Settles O6: both rules are `failAttempt`, HUNT_DISCARD after taking the byte. -/
theorem failedAttemptsAreCounted : Obligations.FailedAttemptsAreCounted := by
  refine ⟨fun inp hv hd => ?_, fun inp hv ht => ?_, fun s d t r l b => ⟨fun h9 => ?_, fun hlt => ?_⟩⟩
  · rw [decode_stepWord, selected, if_pos hv, if_neg hd]
  · simp [decode_stepWord, selected, hv, ht]
  · exact ⟨congrArg Host.Outcome.next (failAttempt_of_nine (s := rxTake d (beginRule s)) h9),
      congrArg Host.Outcome.next (failAttempt_of_nine (s := beginRule s) h9)⟩
  · exact ⟨congrArg Host.Outcome.next (failAttempt_of_ne (s := rxTake d (beginRule s)) hlt.ne),
      congrArg Host.Outcome.next (failAttempt_of_ne (s := beginRule s) hlt.ne)⟩

/-- Settles O7: both rules are `finish` with SECOND_HEADER_MISMATCH, HDR1_MISMATCH after taking the byte. -/
theorem secondHeaderFailureEndsThePoll : Obligations.SecondHeaderFailureEndsThePoll := by
  refine ⟨fun inp hv hd => ?_, fun inp hv ht => ?_, fun s d t r l b => ⟨_, _, rfl, rfl, rfl, rfl, rfl, rfl⟩⟩
  · rw [decode_stepWord, selected, if_pos hv, if_neg hd]
  · simp [decode_stepWord, selected, hv, ht]

/-- Settles O8, by the three cases of PAY_BYTE. -/
theorem payloadByteIsStored : Obligations.PayloadByteIsStored := by
  refine ⟨fun inp hv => ?_, fun s d t r l b k hk => ?_⟩
  · simp [decode_stepWord, selected, hv]
  have hroom : s.payCnt.toNat ≤ 9 := by omega
  have hplace : ∀ h, (⟨2 + s.payCnt.toNat, h⟩ : Fin 12) = k := fun _ => Fin.ext hk.symm
  rw [exec]
  rcases execPayByte_cases d t s hroom with ⟨h9, e⟩ | ⟨hlt, rfl, e⟩ | ⟨hlt, rfl, e⟩ <;> rw [e, hplace, add_one_eq_ofNat]
  · refine ⟨fun _ => ?_, fun _ => by omega, fun _ => by omega⟩
    rw [h9]; rfl
  · exact ⟨fun _ => by omega, fun _ ht => Bool.noConfusion ht, fun _ _ => rfl⟩
  · exact ⟨fun _ => by omega, fun _ _ => rfl, fun _ ht => Bool.noConfusion ht⟩

/-- Settles O9: the meaning is `finish` with TRANSPORT_IO_ERROR. -/
theorem payloadTimeoutIsAnIoError : Obligations.PayloadTimeoutIsAnIoError := by
  refine ⟨fun inp hv ht => ?_, fun s d r l b => ⟨_, rfl, rfl, rfl⟩⟩
  simp [decode_stepWord, selected, hv, ht]

/-- Settles O11: both rules write `st` and `rd_start_q` only, and the outputs are tests of `st`. -/
theorem returnToIdleKeepsTheResults : Obligations.ReturnToIdleKeepsTheResults := by
  refine ⟨fun inp => ⟨decode_stepWord .done inp, decode_stepWord .unused7 inp⟩, fun s => ⟨fun hst => ?_, fun hst => ?_⟩,
    fun s d t v r l b => ⟨_, rfl, rfl, rfl, rfl, rfl⟩⟩
  all_goals simp [State.outputs, State.busy, State.done, hst]

end Sys2Proof.Machine

namespace Sys2Proof.Machine

/-! ### One read operation: quiet cycles, then the cycle that decides (R105 to R115) -/

theorem spanCycles_append (as bs : List Span) : spanCycles (as ++ bs) = spanCycles as ++ spanCycles bs :=
  List.flatMap_append

theorem spanBytes_append (as bs : List Span) : spanBytes (as ++ bs) = spanBytes as ++ spanBytes bs :=
  List.flatMap_append

@[simp] theorem spanCycles_singleton (a : Span) : spanCycles [a] = a.cycles := List.flatMap_singleton ..

@[simp] theorem spanBytes_singleton (a : Span) : spanBytes [a] = a.bytes := List.flatMap_singleton ..

theorem spanBytes_cons (a : Span) (as : List Span) : spanBytes (a :: as) = a.bytes ++ spanBytes as := rfl

theorem Span.bytes_of_valid {a : Span} (hv : a.last.rxValid = true) : a.bytes = [a.last.rxData] := if_pos hv

theorem Span.bytes_of_not_valid {a : Span} (hv : a.last.rxValid = false) : a.bytes = [] := if_neg (by simp [hv])

theorem Span.fits_iff (a : Span) (wait last : Inputs → Bool) : a.fits wait last = true ↔
    (∀ i ∈ a.waits, i.rst = false ∧ wait i = true) ∧ a.last.rst = false ∧ last a.last = true := by
  simp [Span.fits]

/-- Two runs, one after the other. -/
theorem runFor_trans {s t u : State} {j k : Nat} (hj : runFor j s = .next t) (hk : runFor k t = .next u) :
    runFor (j + k) s = .next u := (runFor_add j k hj).trans hk

/-- A quiet cycle waits in each of the three read states (R108, R112, R115). -/
theorem waits_of_quiet {st : SeqState} {inp : Inputs} (hst : st = .hunt ∨ st = .hdr1 ∨ st = .payload)
    (hrst : inp.rst = false) (hq : quiet inp = true) : Waits st inp := by
  obtain ⟨hv, ht⟩ : inp.rxValid = false ∧ inp.rdTimeout = false := by simpa [quiet] using hq
  refine ⟨hrst, fun s => ?_⟩
  rcases hst with rfl | rfl | rfl
  · rw [exec_selected_hunt, hv, ht]; rfl
  · rw [exec_selected_hdr1, hv, ht]; rfl
  · rw [exec_selected_payload, hv, ht]; rfl

/-- A read in any read state: the waits pass, and the last cycle's rule decides. -/
theorem runFor_read {s : State} {a : Span} {rest : List Inputs} {last : Inputs → Bool}
    (hst : s.st = .hunt ∨ s.st = .hdr1 ∨ s.st = .payload) (ha : a.fits quiet last = true)
    (hs : s.stimulus = a.cycles ++ rest) : runFor a.cycles.length s
      = closeCycle (exec (selected s.st a.last) (waited a.waits.length (a.last :: rest) s)) := by
  obtain ⟨hwaits, hrst, _⟩ := (a.fits_iff quiet last).1 ha
  exact runFor_span (fun i hi => waits_of_quiet hst (hwaits i hi).1 (hwaits i hi).2) hrst hs

/-- `s` after the cycles of the read `a`, its byte, if one came, consumed, and before what the rule makes of
it; `rest` is the plan that is left. -/
def readTaken (a : Span) (rest : List Inputs) (s : State) : State :=
  { s with
    rdStartQ := false
    rxLog := s.rxLog ++ a.bytes
    stimulus := rest
    cycle := s.cycle + a.cycles.length }

theorem readTaken_of_valid {a : Span} (hv : a.last.rxValid = true) (rest : List Inputs) (s : State) :
    readTaken a rest s
      = endCycle (rxTake a.last.rxData (beginRule (waited a.waits.length (a.last :: rest) s))) := by
  rw [readTaken, Span.bytes_of_valid hv, Span.length_cycles]
  rfl

theorem readTaken_of_not_valid {a : Span} (hv : a.last.rxValid = false) (rest : List Inputs) (s : State) :
    readTaken a rest s = endCycle (beginRule (waited a.waits.length (a.last :: rest) s)) := by
  rw [readTaken, Span.bytes_of_not_valid hv, List.append_nil, Span.length_cycles]
  rfl

/-! ### The hunt for the first header byte (R105 to R108, R117) -/

theorem Span.isAttempt_ends {a : Span} (ha : a.isAttempt = true) : a.last.rxValid = true ∨ a.last.rdTimeout = true := by
  obtain ⟨_, _, hend⟩ := (a.fits_iff _ _).1 ha
  simpa using hend

theorem Span.findsHeader_iff (a : Span) : a.findsHeader = true ↔ a.last.rxValid = true ∧ a.last.rxData = 0x42 := by
  simp [Span.findsHeader]

theorem endCycle_failAttempt (s : State) : endCycle (failAttempt s) = failAttempt (endCycle s) := by
  unfold failAttempt
  rw [endCycle_huntCnt]
  split <;> rfl

/-- An attempt that does not end with `0x42` fails, with or without a byte (R106, R107). -/
theorem runFor_miss {s : State} {a : Span} {rest : List Inputs} (hst : s.st = .hunt) (ha : a.isAttempt = true)
    (hmiss : a.findsHeader = false) (hs : s.stimulus = a.cycles ++ rest) :
    runFor a.cycles.length s = .next (failAttempt (readTaken a rest s)) := by
  rw [runFor_read (.inl hst) ha hs, hst, exec_selected_hunt]
  cases hv : a.last.rxValid with
  | true =>
    have hd : a.last.rxData ≠ 0x42 := fun hd => by simp [a.findsHeader_iff.2 ⟨hv, hd⟩] at hmiss
    rw [if_pos rfl, if_neg hd, readTaken_of_valid hv, ← endCycle_failAttempt]
    rfl
  | false =>
    have ht : a.last.rdTimeout = true := (Span.isAttempt_ends ha).resolve_left (by simp [hv])
    rw [if_neg Bool.false_ne_true, if_pos ht, readTaken_of_not_valid hv, ← endCycle_failAttempt]
    rfl

/-- `s` after the failed attempts `tries`, none of them the tenth. -/
def attemptsMissed (tries : List Span) (rest : List Inputs) (s : State) : State :=
  { s with
    huntCnt := s.huntCnt + BitVec.ofNat 4 tries.length
    rdStartQ := s.rdStartQ || !tries.isEmpty
    rxLog := s.rxLog ++ spanBytes tries
    stimulus := rest
    cycle := s.cycle + (spanCycles tries).length }

theorem attemptsMissed_nil (s : State) : attemptsMissed [] s.stimulus s = s := by
  simp [attemptsMissed, spanBytes, spanCycles]

theorem attemptsMissed_cons (a : Span) (tries : List Span) (plan rest : List Inputs) (s : State) :
    attemptsMissed tries rest { readTaken a plan s with huntCnt := s.huntCnt + 1, rdStartQ := true }
      = attemptsMissed (a :: tries) rest s := by
  have hcount : s.huntCnt + 1 + BitVec.ofNat 4 tries.length = s.huntCnt + BitVec.ofNat 4 (tries.length + 1) := by
    rw [Nat.add_comm tries.length, BitVec.ofNat_add, BitVec.add_assoc]
    rfl
  simpa [attemptsMissed, readTaken, spanBytes_cons, Nat.add_assoc] using hcount

/-- Failed attempts within the budget are counted, and the hunt goes on (R106, R107). -/
theorem runFor_misses {tries : List Span} {s : State} {rest : List Inputs} (hst : s.st = .hunt)
    (hbudget : s.huntCnt.toNat + tries.length ≤ 9) (ha : ∀ a ∈ tries, a.isAttempt = true ∧ a.findsHeader = false)
    (hs : s.stimulus = spanCycles tries ++ rest) :
    runFor (spanCycles tries).length s = .next (attemptsMissed tries rest s) := by
  induction tries generalizing s with
  | nil =>
    obtain rfl : s.stimulus = rest := hs
    rw [attemptsMissed_nil]
    rfl
  | cons a tries ih =>
    obtain ⟨⟨hattempt, hmiss⟩, hmore⟩ := List.forall_mem_cons.1 ha
    rw [spanCycles_cons, List.append_assoc] at hs
    rw [List.length_cons] at hbudget
    have hfirst := runFor_miss hst hattempt hmiss hs
    rcases failAttempt_cases (readTaken a (spanCycles tries ++ rest) s) with ⟨h9, _⟩ | ⟨_, e⟩
    · change s.huntCnt.toNat = 9 at h9
      omega
    have hcount : (s.huntCnt + 1).toNat = s.huntCnt.toNat + 1 := toNat_succ (by omega)
    rw [spanCycles_cons, List.length_append, ← attemptsMissed_cons a tries (spanCycles tries ++ rest)]
    exact runFor_trans (hfirst.trans (congrArg Host.Outcome.next e))
      (ih hst (by change (s.huntCnt + 1).toNat + _ ≤ 9; omega) hmore rfl)

/-- Settles O41: nine failed attempts are counted, and the last of the ten ends the poll. -/
theorem tenFailedAttemptsLoseTheHeader : Obligations.TenFailedAttemptsLoseTheHeader := by
  intro s tries rest hst hzero hlen ha hs
  rcases List.eq_nil_or_concat' tries with rfl | ⟨nine, tenth, rfl⟩
  · simp at hlen
  have hnine : nine.length = 9 := by simpa using hlen
  obtain ⟨hfirst, hlast⟩ := List.forall_mem_append.1 ha
  obtain ⟨hattempt, hmiss⟩ := hlast tenth (List.mem_singleton_self tenth)
  rw [spanCycles_append, spanCycles_singleton, List.append_assoc] at hs
  have hmisses := runFor_misses hst (by simp [hzero, hnine]) hfirst hs
  have htenth := runFor_miss (s := attemptsMissed nine (tenth.cycles ++ rest) s) hst hattempt hmiss rfl
  rw [failAttempt_of_nine (by simp [readTaken, attemptsMissed, hzero, hnine])] at htenth
  rw [spanCycles_append, spanCycles_singleton, List.length_append, runFor_trans hmisses htenth]
  simp [finishFailed, finish, OutcomeCode.code, readTaken, attemptsMissed, spanBytes_append, Nat.add_assoc]

/-- `s` after the read `a` that found `0x42` in the hunt (R105). -/
def firstHeaderRead (a : Span) (rest : List Inputs) (s : State) : State :=
  { startRead (storeFrame 0 0x42 (readTaken a rest s)) with st := .hdr1 }

theorem runFor_found {s : State} {a : Span} {rest : List Inputs} (hst : s.st = .hunt) (ha : a.isAttempt = true)
    (hfound : a.findsHeader = true) (hs : s.stimulus = a.cycles ++ rest) :
    runFor a.cycles.length s = .next (firstHeaderRead a rest s) := by
  obtain ⟨hv, hd⟩ := a.findsHeader_iff.1 hfound
  rw [runFor_read (.inl hst) ha hs, hst, exec_selected_hunt, if_pos hv, if_pos hd, firstHeaderRead,
    readTaken_of_valid hv, hd]
  rfl

/-- The hunt to its end: failed attempts within the budget, and the one that finds `0x42` (R117). -/
theorem runFor_hunt {s : State} {misses : List Span} {found : Span} {rest : List Inputs} (hst : s.st = .hunt)
    (hbudget : s.huntCnt.toNat + misses.length ≤ 9) (ha : ∀ a ∈ misses, a.isAttempt = true ∧ a.findsHeader = false)
    (hattempt : found.isAttempt = true) (hfound : found.findsHeader = true)
    (hs : s.stimulus = spanCycles misses ++ (found.cycles ++ rest)) :
    runFor ((spanCycles misses).length + found.cycles.length) s
      = .next (firstHeaderRead found rest (attemptsMissed misses (found.cycles ++ rest) s)) :=
  runFor_trans (runFor_misses hst hbudget ha hs)
    (runFor_found (s := attemptsMissed misses (found.cycles ++ rest) s) hst hattempt hfound rfl)

/-! ### The read of the second header byte (R109 to R112) -/

/-- `s` after the read `a` that gave `0x4D` (R109). -/
def secondHeaderRead (a : Span) (rest : List Inputs) (s : State) : State :=
  { startRead (storeFrame 1 0x4D (readTaken a rest s)) with payCnt := 0, st := .payload }

section SecondHeader

variable {s : State} {a : Span} {rest : List Inputs} {last : Inputs → Bool}
  (hst : s.st = .hdr1) (ha : a.fits quiet last = true) (hs : s.stimulus = a.cycles ++ rest)
include hst ha hs

theorem runFor_secondHeader (hv : a.last.rxValid = true) (hd : a.last.rxData = 0x4D) :
    runFor a.cycles.length s = .next (secondHeaderRead a rest s) := by
  rw [runFor_read (.inr (.inl hst)) ha hs, hst, exec_selected_hdr1, if_pos hv, if_pos hd, secondHeaderRead,
    readTaken_of_valid hv, hd]
  rfl

/-- Another byte, or a timeout (R110, R111). -/
theorem runFor_secondHeader_fails (hend : a.last.rxValid = true ∨ a.last.rdTimeout = true)
    (hne : ¬ (a.last.rxValid = true ∧ a.last.rxData = 0x4D)) :
    runFor a.cycles.length s = .next (finishFailed .secondHeaderMismatch (readTaken a rest s)) := by
  rw [runFor_read (.inr (.inl hst)) ha hs, hst, exec_selected_hdr1]
  cases hv : a.last.rxValid with
  | true =>
    rw [if_pos rfl, if_neg fun hd => hne ⟨hv, hd⟩, readTaken_of_valid hv]
    rfl
  | false =>
    rw [if_neg Bool.false_ne_true, if_pos (hend.resolve_left (by simp [hv])), readTaken_of_not_valid hv]
    rfl

end SecondHeader

/-- Settles O42: the hunt ends in HDR1, and the read after it decides by its byte. -/
theorem firstHeaderByteIsFoundWithinTheBudget : Obligations.FirstHeaderByteIsFoundWithinTheBudget := by
  intro s misses found second rest hst hzero hlen ha hattempt hfound hsecond hs
  have hbyte : found.bytes = [0x42] := by
    obtain ⟨hv, hd⟩ := found.findsHeader_iff.1 hfound
    rw [Span.bytes_of_valid hv, hd]
  have hcount : (s.huntCnt + BitVec.ofNat 4 misses.length).toNat = misses.length := by
    simp [hzero]
    omega
  have hhunt := runFor_hunt (rest := second.cycles ++ rest) hst (by simpa [hzero] using hlen) ha hattempt hfound
    (by simpa using hs)
  by_cases hd : second.last.rxValid = true ∧ second.last.rxData = 0x4D
  · refine ⟨_, runFor_trans hhunt (runFor_secondHeader rfl hsecond rfl hd.1 hd.2), hcount, ?_, rfl, ?_,
      fun _ => ⟨rfl, rfl, ?_, rfl, rfl⟩, fun hne => absurd hd hne⟩
    · simp [secondHeaderRead, firstHeaderRead, readTaken]
    · rw [← hbyte]; rfl
    · simp [secondHeaderRead]
  · have hends := Span.isAttempt_ends hsecond
    refine ⟨_, runFor_trans hhunt (runFor_secondHeader_fails rfl hsecond rfl hends hd), hcount, ?_, rfl, ?_,
      fun hyes => absurd hyes hd, fun _ => ⟨rfl, rfl⟩⟩
    · simp [firstHeaderRead, readTaken]
    · rw [← hbyte]; rfl

end Sys2Proof.Machine

namespace Sys2Proof.Machine

/-! ### The payload read (R113 to R115, R117) -/

/-- `s` with every field blanked that a payload read writes: two states that agree here differ in those alone. -/
def State.outsidePayload (s : State) : State :=
  { s with
    payCnt := 0
    frame := Vector.replicate 12 0
    rdStartQ := false
    stimulus := []
    cycle := 0
    rxLog := []
    frameWritten := Vector.replicate 12 false }

/-- From `s` the payload bytes `bs` were consumed and stored in arrival order; `rest` is the plan that is left. -/
structure PayloadStored (bs : List Byte) (rest : List Inputs) (s u : State) : Prop where
  same : u.outsidePayload = s.outsidePayload
  count : u.payCnt.toNat = s.payCnt.toNat + bs.length
  frame : u.frame.toList.take (2 + u.payCnt.toNat) = s.frame.toList.take (2 + s.payCnt.toNat) ++ bs
  log : u.rxLog = s.rxLog ++ bs
  plan : u.stimulus = rest

section PayloadStored

variable {s u : State} {bs : List Byte} {rest : List Inputs} (h : PayloadStored bs rest s u)
include h

theorem PayloadStored.st : u.st = s.st := (congrArg State.st h.same :)
theorem PayloadStored.huntCnt : u.huntCnt = s.huntCnt := (congrArg State.huntCnt h.same :)
theorem PayloadStored.resStatus : u.resStatus = s.resStatus := (congrArg State.resStatus h.same :)
theorem PayloadStored.txLog : u.txLog = s.txLog := (congrArg State.txLog h.same :)
theorem PayloadStored.outcomeCount : u.outcomeCount = s.outcomeCount := (congrArg State.outcomeCount h.same :)

end PayloadStored

theorem PayloadStored.refl (s : State) : PayloadStored [] s.stimulus s s :=
  ⟨rfl, rfl, (List.append_nil _).symm, (List.append_nil _).symm, rfl⟩

theorem PayloadStored.trans {s t u : State} {bs cs : List Byte} {plan rest : List Inputs}
    (h : PayloadStored bs plan s t) (h' : PayloadStored cs rest t u) : PayloadStored (bs ++ cs) rest s u where
  same := h'.same.trans h.same
  count := by rw [h'.count, h.count, List.length_append, Nat.add_assoc]
  frame := by rw [h'.frame, h.frame, List.append_assoc]
  log := by rw [h'.log, h.log, List.append_assoc]
  plan := h'.plan

/-- Reading no byte stores nothing. -/
theorem payloadStored_of_no_byte {a : Span} (hv : a.last.rxValid = false) (rest : List Inputs) (s : State) :
    PayloadStored a.bytes rest s (readTaken a rest s) where
  same := rfl
  count := by rw [Span.bytes_of_not_valid hv]; rfl
  frame := by rw [Span.bytes_of_not_valid hv, List.append_nil]; rfl
  log := rfl
  plan := rfl

/-- A byte stored at the place of the next one is stored in arrival order. -/
theorem payloadStored_of_byte {s : State} {a : Span} {k : Fin 12} (hv : a.last.rxValid = true)
    (hroom : s.payCnt.toNat ≤ 9) (hk : k.val = 2 + s.payCnt.toNat) (rest : List Inputs) : PayloadStored a.bytes rest s
      { storeFrame k a.last.rxData (readTaken a rest s) with payCnt := s.payCnt + 1 } where
  same := rfl
  count := by rw [Span.bytes_of_valid hv]; exact toNat_succ hroom
  frame := by
    have hplace : 2 + (s.payCnt + 1).toNat = k.val + 1 := by rw [toNat_succ hroom, hk, Nat.add_assoc]
    change (s.frame.set k a.last.rxData).toList.take (2 + (s.payCnt + 1).toNat) = _
    rw [hplace, frame_take_set, Span.bytes_of_valid hv, hk]
  log := rfl
  plan := rfl

section Payload

variable {s : State} {a : Span} {rest : List Inputs} {last : Inputs → Bool}
  (hst : s.st = .payload) (ha : a.fits quiet last = true) (hs : s.stimulus = a.cycles ++ rest)
include hst ha hs

/-- A payload byte (R113): stored; the tenth leads to CHECK; an earlier one with a timeout ends the poll. -/
theorem runFor_payloadByte (hv : a.last.rxValid = true) (hroom : s.payCnt.toNat ≤ 9) :
    ∃ v, PayloadStored a.bytes rest s v ∧
      ((s.payCnt.toNat = 9 ∧ runFor a.cycles.length s = .next { v with st := .check })
      ∨ (s.payCnt.toNat < 9 ∧ a.last.rdTimeout = true
        ∧ runFor a.cycles.length s = .next (finishFailed .transportIoError v))
      ∨ (s.payCnt.toNat < 9 ∧ a.last.rdTimeout = false ∧ runFor a.cycles.length s = .next v)) := by
  refine ⟨_, payloadStored_of_byte hv hroom (k := ⟨2 + s.payCnt.toNat, by omega⟩) rfl rest, ?_⟩
  rw [runFor_read (.inr (.inr hst)) ha hs, hst, exec_selected_payload, if_pos hv, readTaken_of_valid hv]
  rcases execPayByte_cases a.last.rxData a.last.rdTimeout (waited a.waits.length (a.last :: rest) s) hroom with
    ⟨h9, e⟩ | ⟨hlt, ht, e⟩ | ⟨hlt, ht, e⟩ <;> rw [e]
  · exact .inl ⟨h9, rfl⟩
  · exact .inr (.inl ⟨hlt, ht, rfl⟩)
  · exact .inr (.inr ⟨hlt, ht, rfl⟩)

/-- A timeout with no byte (R114). -/
theorem runFor_payloadTimeout (hv : a.last.rxValid = false) (ht : a.last.rdTimeout = true) :
    runFor a.cycles.length s = .next (finishFailed .transportIoError (readTaken a rest s)) := by
  rw [runFor_read (.inr (.inr hst)) ha hs, hst, exec_selected_payload, hv, if_neg Bool.false_ne_true, if_pos ht,
    readTaken_of_not_valid hv]
  rfl

/-- A read with a timeout before the tenth byte, alone or with a byte, ends the poll (R113, R114). -/
theorem runFor_shortRead (ht : a.last.rdTimeout = true) (hshort : s.payCnt.toNat + a.bytes.length ≤ 9) :
    ∃ v, PayloadStored a.bytes rest s v ∧ runFor a.cycles.length s = .next (finishFailed .transportIoError v) := by
  cases hv : a.last.rxValid with
  | false => exact ⟨_, payloadStored_of_no_byte hv rest s, runFor_payloadTimeout hst ha hs hv ht⟩
  | true =>
    rw [Span.bytes_of_valid hv, List.length_singleton] at hshort
    obtain ⟨v, hstored, ⟨h9, _⟩ | ⟨_, _, hrun⟩ | ⟨_, hf, _⟩⟩ := runFor_payloadByte hst ha hs hv (by omega)
    · omega
    · exact ⟨v, hstored, hrun⟩
    · exact absurd (ht.symm.trans hf) Bool.noConfusion

end Payload

theorem Span.isPayloadByte_ends {t : Bool} {a : Span} (ha : a.isPayloadByte t = true) :
    a.last.rxValid = true ∧ (t = true ∨ a.last.rdTimeout = false) := by
  obtain ⟨_, _, hend⟩ := (a.fits_iff _ _).1 ha
  simpa using hend

/-- Payload bytes bring one byte each. -/
theorem length_spanBytes {t : Bool} {as : List Span} (ha : ∀ a ∈ as, a.isPayloadByte t = true) :
    (spanBytes as).length = as.length := by
  induction as with
  | nil => rfl
  | cons a as ih =>
    obtain ⟨hfirst, hmore⟩ := List.forall_mem_cons.1 ha
    rw [spanBytes_cons, Span.bytes_of_valid (Span.isPayloadByte_ends hfirst).1, List.length_append, ih hmore,
      List.length_singleton, List.length_cons, Nat.add_comm]

/-- Payload bytes before the tenth are stored, and the read goes on (R113). -/
theorem runFor_payloadBytes {got : List Span} {s : State} {rest : List Inputs} (hst : s.st = .payload)
    (hroom : s.payCnt.toNat + got.length ≤ 9) (ha : ∀ a ∈ got, a.isPayloadByte false = true)
    (hs : s.stimulus = spanCycles got ++ rest) :
    ∃ v, runFor (spanCycles got).length s = .next v ∧ PayloadStored (spanBytes got) rest s v := by
  induction got generalizing s with
  | nil =>
    obtain rfl : s.stimulus = rest := hs
    exact ⟨s, rfl, .refl s⟩
  | cons a got ih =>
    obtain ⟨hbyte, hmore⟩ := List.forall_mem_cons.1 ha
    obtain ⟨hv, ht⟩ := Span.isPayloadByte_ends hbyte
    rw [spanCycles_cons, List.append_assoc] at hs
    rw [List.length_cons] at hroom
    obtain ⟨t, hstored, ⟨h9, _⟩ | ⟨_, hf, _⟩ | ⟨hlt, _, hrun⟩⟩ := runFor_payloadByte hst hbyte hs hv (by omega)
    · omega
    · simp [hf] at ht
    · have htst : t.st = .payload := hstored.st.trans hst
      have hcount : t.payCnt.toNat = s.payCnt.toNat + 1 := by rw [hstored.count, Span.bytes_of_valid hv]; rfl
      obtain ⟨v, hrest, hmany⟩ := ih htst (by omega) hmore hstored.plan
      rw [spanCycles_cons, List.length_append]
      exact ⟨v, runFor_trans hrun hrest, hstored.trans hmany⟩

/-- The payload read to its end: nine bytes, and the tenth with or without a timeout (R117). -/
theorem runFor_tenBytes {s : State} {nine : List Span} {tenth : Span} {rest : List Inputs} (hst : s.st = .payload)
    (hzero : s.payCnt = 0) (hnine : nine.length = 9) (ha : ∀ a ∈ nine, a.isPayloadByte false = true)
    (hlast : tenth.isPayloadByte true = true) (hs : s.stimulus = spanCycles nine ++ (tenth.cycles ++ rest)) :
    ∃ v, runFor ((spanCycles nine).length + tenth.cycles.length) s = .next { v with st := .check }
      ∧ PayloadStored (spanBytes nine ++ [tenth.last.rxData]) rest s v := by
  obtain ⟨t, hrun, hstored⟩ := runFor_payloadBytes hst (by simp [hzero, hnine]) ha hs
  have htst : t.st = .payload := hstored.st.trans hst
  have hcount : t.payCnt.toNat = 9 := by rw [hstored.count, length_spanBytes ha, hnine, hzero]; rfl
  have hv := (Span.isPayloadByte_ends hlast).1
  obtain ⟨v, hbyte, ⟨_, htenth⟩ | ⟨hlt, _⟩ | ⟨hlt, _⟩⟩ := runFor_payloadByte htst hlast hstored.plan hv hcount.le
  · rw [Span.bytes_of_valid hv] at hbyte
    exact ⟨v, runFor_trans hrun htenth, hstored.trans hbyte⟩
  all_goals omega

/-- After ten payload bytes the frame is the header as it was and the bytes in arrival order. -/
theorem PayloadStored.frame_of_ten {s v : State} {bs : List Byte} {rest : List Inputs} (h : PayloadStored bs rest s v)
    (hzero : s.payCnt = 0) (hlen : bs.length = 10) : v.frame.toList = s.frame[0] :: s.frame[1] :: bs := by
  have hcount : v.payCnt.toNat = 10 := by rw [h.count, hlen, hzero]; rfl
  have hheader : s.frame.toList.take 2 = [s.frame[0], s.frame[1]] := by
    rw [List.take_add_one, frame_take_one]
    simp
  calc v.frame.toList = v.frame.toList.take (2 + v.payCnt.toNat) := by rw [hcount, frame_take_twelve]
    _ = s.frame.toList.take 2 ++ bs := by rw [h.frame, hzero]; rfl
    _ = s.frame[0] :: s.frame[1] :: bs := by rw [hheader]; rfl

/-- Settles O43, by `runFor_tenBytes`. -/
theorem tenPayloadBytesReachCheck : Obligations.TenPayloadBytesReachCheck := by
  intro s nine tenth rest hst hzero hnine ha hlast hs
  have hlen : (spanBytes nine ++ [tenth.last.rxData]).length = 10 := by simp [length_spanBytes ha, hnine]
  obtain ⟨v, hrun, hstored⟩ := runFor_tenBytes (rest := rest) hst hzero hnine ha hlast (by simpa using hs)
  have hcount : v.payCnt = 10 := BitVec.eq_of_toNat_eq (by rw [hstored.count, hlen, hzero]; rfl)
  exact ⟨_, hrun, rfl, hcount, hstored.plan, hstored.resStatus, hstored.frame_of_ten hzero hlen,
    by rw [List.append_assoc]; exact hstored.log, hstored.txLog⟩

/-- Settles O44: the bytes that came are stored, and the read with the timeout ends the poll. -/
theorem shortPayloadIsAnIoError : Obligations.ShortPayloadIsAnIoError := by
  intro s got late rest hst hzero ha hattempt ht hshort hs
  have hlen := length_spanBytes ha
  have h0 : s.payCnt.toNat = 0 := by rw [hzero]; rfl
  obtain ⟨t, hrun, hgot⟩ := runFor_payloadBytes (rest := late.cycles ++ rest) hst (by omega) ha (by simpa using hs)
  have htst : t.st = .payload := hgot.st.trans hst
  obtain ⟨v, hlate, hend⟩ := runFor_shortRead htst hattempt hgot.plan ht (by rw [hgot.count]; omega)
  have hall := hgot.trans hlate
  refine ⟨_, runFor_trans hrun hend, rfl, rfl, rfl, rfl, rfl, ?_, hall.plan, ?_⟩
  · rw [finishFailed_payCnt, hall.count, List.length_append, h0, hlen, Nat.zero_add]
  · rw [finishFailed_rxLog, hall.log, List.append_assoc]

end Sys2Proof.Machine

namespace Sys2Proof.Machine

/-! ### A whole poll, from start to DONE (R117, R144, R220) -/

theorem Span.isSecondHeader_ends {a : Span} (ha : a.isSecondHeader = true) :
    a.last.rxValid = true ∧ a.last.rxData = 0x4D := by
  obtain ⟨_, _, hend⟩ := (a.fits_iff _ _).1 ha
  simpa using hend

/-- `s` after the cycle that starts a poll (R102). -/
def pollStarted (rest : List Inputs) (s : State) : State :=
  { clearResults (beginPoll (beginRule s)) with cmdIdx := 0, st := .cmd, stimulus := rest, cycle := s.cycle + 1 }

theorem runFor_start {s : State} {go : Inputs} {rest : List Inputs} (hst : s.st = .idle) (hrst : go.rst = false)
    (hstart : go.start = true) (hlink : go.linkOpen = true) (hs : s.stimulus = go :: rest) :
    runFor 1 s = .next (pollStarted rest s) := by
  have hexec : exec (selected s.st go) s = execIdleStart s := by
    rw [hst, exec_selected_idle, if_pos hstart, if_pos hlink]
  rw [runFor_one, step_planned hs hrst hexec]
  rfl

/-- The CHECK cycle (R144): both sums are recorded, with the values of the frame if they agree. -/
theorem runFor_check {s : State} {last : Inputs} {rest : List Inputs} (hst : s.st = .check)
    (hrst : last.rst = false) (hs : s.stimulus = last :: rest) : ∃ c f0 f1 f2,
      runFor 1 s = .next { finish c f0 f1 f2 (csum16 s.frame) (csrx s.frame) (beginRule s) with
        stimulus := rest, cycle := s.cycle + 1 }
      ∧ (csum16 s.frame = csrx s.frame → c = .success ∧ f0 = be16 s.frame[4] s.frame[5]
        ∧ f1 = be16 s.frame[6] s.frame[7] ∧ f2 = be16 s.frame[8] s.frame[9])
      ∧ (csum16 s.frame ≠ csrx s.frame → c = .checksumError ∧ f0 = 0 ∧ f1 = 0 ∧ f2 = 0) := by
  have hexec : exec (selected s.st last) s = execCheckEval s := by rw [hst]; rfl
  rcases execCheckEval_cases s with ⟨heq, e⟩ | ⟨hne, e⟩ <;>
    refine ⟨_, _, _, _, (runFor_one s).trans (step_planned hs hrst (hexec.trans e)), ?_, ?_⟩
  · exact fun _ => ⟨rfl, rfl, rfl, rfl⟩
  · exact fun hne => absurd heq hne
  · exact fun heq => absurd heq hne
  · exact fun _ => ⟨rfl, rfl, rfl, rfl⟩

/-- `t` is where the poll that started in `s` begins its payload read: the command sent, the failed attempts
`misses` and then both header bytes received; `rest` is the plan that is left. -/
structure HeaderReceived (misses : List Span) (rest : List Inputs) (s t : State) : Prop where
  st : t.st = .payload
  payCnt : t.payCnt = 0
  attempts : t.huntCnt.toNat = misses.length
  first : t.frame[0] = 0x42
  second : t.frame[1] = 0x4D
  outcomes : t.outcomeCount = s.outcomeCount
  sent : t.txLog = s.txLog ++ [0x42, 0x4D, 0xE3, 0x00, 0x00, 0x01, 0x72]
  received : t.rxLog = s.rxLog ++ spanBytes misses ++ [0x42, 0x4D]
  plan : t.stimulus = rest

/-- A poll from its start to its payload read (R102, R104, R117). -/
theorem runFor_header {s : State} {go : Inputs} {sends misses : List Span} {found second : Span} {rest : List Inputs}
    (hst : s.st = .idle) (hrst : go.rst = false) (hstart : go.start = true) (hlink : go.linkOpen = true)
    (hseven : sends.length = 7) (hsends : ∀ a ∈ sends, a.isTransmit = true)
    (hbudget : misses.length ≤ 9) (hmisses : ∀ a ∈ misses, a.isAttempt = true ∧ a.findsHeader = false)
    (hattempt : found.isAttempt = true) (hfound : found.findsHeader = true) (hsecond : second.isSecondHeader = true)
    (hs : s.stimulus = go :: (spanCycles sends ++ (spanCycles misses ++ (found.cycles ++ (second.cycles ++ rest))))) :
    ∃ t, runFor (1 + (spanCycles sends).length + ((spanCycles misses).length + found.cycles.length)
        + second.cycles.length) s = .next t ∧ HeaderReceived misses rest s t := by
  obtain ⟨hfirstValid, hfirstData⟩ := found.findsHeader_iff.1 hfound
  obtain ⟨hsecondValid, hsecondData⟩ := Span.isSecondHeader_ends hsecond
  have hcommand := commandIsSentWhole (pollStarted _ s) sends
    (spanCycles misses ++ (found.cycles ++ (second.cycles ++ rest))) rfl rfl hseven hsends rfl
  refine ⟨_, runFor_trans (runFor_trans (runFor_trans (runFor_start hst hrst hstart hlink hs) hcommand)
    (runFor_hunt rfl (by simpa using hbudget) hmisses hattempt hfound rfl))
    (runFor_secondHeader rfl hsecond rfl hsecondValid hsecondData), ?_⟩
  exact {
    st := rfl
    payCnt := rfl
    attempts := by
      change ((0 : BitVec 4) + BitVec.ofNat 4 misses.length).toNat = misses.length
      simp
      omega
    first := by simp [secondHeaderRead, firstHeaderRead, readTaken]
    second := by simp [secondHeaderRead]
    outcomes := rfl
    sent := rfl
    received := by
      change s.rxLog ++ spanBytes misses ++ found.bytes ++ second.bytes = _
      rw [Span.bytes_of_valid hfirstValid, Span.bytes_of_valid hsecondValid, hfirstData, hsecondData, List.append_assoc]
      rfl
    plan := rfl }

/-- Settles O45: start, command, hunt and second header byte, then ten payload bytes, then CHECK. -/
theorem wholePollDeliversTheFrame : Obligations.WholePollDeliversTheFrame := by
  intro s go last sends misses nine found second tenth rest f hst hgo hstart hlink hseven hsends hbudget hmisses
    hattempt hfound hsecond hnine hbytes hlast hrst hs hf
  have hplan : s.stimulus = go :: (spanCycles sends ++ (spanCycles misses ++ (found.cycles ++ (second.cycles
      ++ (spanCycles nine ++ (tenth.cycles ++ last :: rest)))))) := by simpa using hs
  obtain ⟨t, hheader, ht⟩ := runFor_header hst hgo hstart hlink hseven hsends hbudget hmisses hattempt hfound
    hsecond hplan
  obtain ⟨v, hpayload, hv⟩ := runFor_tenBytes ht.st ht.payCnt hnine hbytes hlast ht.plan
  obtain ⟨c, f0, f1, f2, hcheck, hequal, hunequal⟩ :=
    runFor_check (s := { v with st := .check }) rfl hrst hv.plan
  have hlen : (spanBytes nine ++ [tenth.last.rxData]).length = 10 := by simp [length_spanBytes hbytes, hnine]
  obtain rfl : v.frame = f := Vector.toList_inj.1 (by
    rw [hv.frame_of_ten ht.payCnt hlen, ht.first, ht.second, hf])
  have hcycles : 2 + (spanCycles sends).length + ((spanCycles misses).length + found.cycles.length)
      + second.cycles.length + ((spanCycles nine).length + tenth.cycles.length)
      = 1 + (spanCycles sends).length + ((spanCycles misses).length + found.cycles.length) + second.cycles.length
        + ((spanCycles nine).length + tenth.cycles.length) + 1 := by omega
  rw [hcycles]
  refine ⟨_, runFor_trans (runFor_trans hheader hpayload) hcheck, rfl, rfl, rfl, ?_, ?_, ?_, ?_, rfl, rfl,
    fun h => ?_, fun h => ?_⟩
  · rw [← ht.outcomes, ← hv.outcomeCount]; rfl
  · rw [← ht.attempts, ← hv.huntCnt]; rfl
  · rw [← ht.sent, ← hv.txLog]; rfl
  · change v.rxLog = _
    rw [hv.log, ht.received, hf, List.append_assoc]
    rfl
  · obtain ⟨rfl, rfl, rfl, rfl⟩ := hequal h
    exact ⟨rfl, rfl, rfl, rfl⟩
  · obtain ⟨rfl, rfl, rfl, rfl⟩ := hunequal h
    exact ⟨rfl, rfl, rfl, rfl⟩

end Sys2Proof.Machine

namespace Sys2Proof.Machine

/-! ### The sum of frame offsets 0 to 9, and the transmitted checksum, as numbers (R140 to R143) -/

/-- The bytes at frame offsets 0 to 9 summed without reduction: what CSUM16 reduces mod 2^16 (R140). -/
def byteSum (f : Frame) : Nat := ((f.toList.take 10).map BitVec.toNat).sum

theorem frame_toList (f : Frame) :
    f.toList = [f[0], f[1], f[2], f[3], f[4], f[5], f[6], f[7], f[8], f[9], f[10], f[11]] :=
  List.ext_getElem (by simp) fun k hk _ => by
    rw [Vector.length_toList] at hk
    interval_cases k <;> rfl

theorem byteSum_eq (f : Frame) : byteSum f = f[0].toNat + f[1].toNat + f[2].toNat + f[3].toNat + f[4].toNat
    + f[5].toNat + f[6].toNat + f[7].toNat + f[8].toNat + f[9].toNat := by
  rw [byteSum, frame_toList]
  simp [Nat.add_assoc]

/-- R143: ten bytes sum to at most `10 * 255`. -/
theorem byteSum_le (f : Frame) : byteSum f ≤ 0x09F6 := by
  rw [byteSum_eq]
  omega

theorem csum16_eq_ofNat_byteSum (f : Frame) : csum16 f = BitVec.ofNat 16 (byteSum f) := by
  rw [byteSum_eq, csum16]

/-- The reduction mod 2^16 changes nothing (R143). -/
theorem toNat_csum16 (f : Frame) : (csum16 f).toNat = byteSum f := by
  have hle := byteSum_le f
  rw [csum16_eq_ofNat_byteSum, BitVec.toNat_ofNat]
  omega

theorem toNat_be16 (hi lo : Byte) : (be16 hi lo).toNat = hi.toNat * 256 + lo.toNat := by
  rw [be16, BitVec.toNat_ofNat]
  omega

theorem toNat_csrx (f : Frame) : (csrx f).toNat = f[10].toNat * 256 + f[11].toNat := toNat_be16 ..

/-- A frame passes when sum and transmitted value are equal as numbers (R142, R143). -/
theorem csok_iff (f : Frame) : csok f = true ↔ byteSum f = f[10].toNat * 256 + f[11].toNat := by
  rw [csok, beq_iff_eq, ← BitVec.toNat_inj, toNat_csum16, toNat_csrx]

theorem csok_eq_false_iff (f : Frame) : csok f = false ↔ byteSum f ≠ f[10].toNat * 256 + f[11].toNat := by
  rw [← Bool.not_eq_true, csok_iff]

/-! ### The range of the sum (R143) -/

/-- With the header bytes of R44 the sum lies between `0x42 + 0x4D` and that with eight bytes `0xFF`. -/
theorem byteSum_of_header {f : Frame} (h0 : f[0] = 0x42) (h1 : f[1] = 0x4D) :
    0x008F ≤ byteSum f ∧ byteSum f ≤ 0x0887 := by
  have hfirst : f[0].toNat = 0x42 := by rw [h0]; rfl
  have hsecond : f[1].toNat = 0x4D := by rw [h1]; rfl
  rw [byteSum_eq]
  omega

/-- Settles O34, by `byteSum_le` and `byteSum_of_header`. -/
theorem checksumRange : Obligations.ChecksumRange := by
  intro f
  have hle := byteSum_le f
  rw [toNat_csum16]
  refine ⟨hle, ?_, fun n hn => ?_, fun h0 h1 => ?_⟩
  · apply BitVec.eq_of_toNat_eq
    rw [BitVec.extractLsb'_toNat, toNat_csum16, Nat.shiftRight_eq_div_pow, Nat.div_eq_of_lt (by omega)]
    rfl
  · have hwide : 2 ^ 12 ≤ 2 ^ n := Nat.pow_le_pow_right (by decide) hn
    rw [← byteSum_eq, Nat.mod_eq_of_lt (by omega)]
  · obtain ⟨hlow, hhigh⟩ := byteSum_of_header h0 h1
    refine ⟨hlow, hhigh, fun hout => ?_⟩
    rw [toNat_be16] at hout
    rw [csok_eq_false_iff]
    omega

/-! ### What a change of the bytes does to the sum (R145) -/

/-- A byte written at offsets 0 to 9 changes the sum by its difference from the byte before. -/
theorem byteSum_set (f : Frame) (k : Fin 12) (b : Byte) (hk : k.val ≤ 9) :
    byteSum (f.set k b) + f[k].toNat = byteSum f + b.toNat := by
  have hlen : k.val < ((f.toList.take 10).map BitVec.toNat).length := by simp; omega
  have hnew : byteSum (f.set k b) = b.toNat + (((f.toList.take 10).map BitVec.toNat).eraseIdx k).sum := by
    rw [byteSum, Vector.toList_set, List.take_set, List.map_set,
      (List.set_perm_cons_eraseIdx hlen b.toNat).sum_nat, List.sum_cons]
  have hold : byteSum f = f[k].toNat + (((f.toList.take 10).map BitVec.toNat).eraseIdx k).sum := by
    rw [byteSum, ← (List.getElem_cons_eraseIdx_perm hlen).sum_nat, List.sum_cons]
    simp
  omega

/-- The sum does not read offsets 10 and 11. -/
theorem byteSum_set_of_ge (f : Frame) (k : Fin 12) (b : Byte) (hk : 10 ≤ k.val) : byteSum (f.set k b) = byteSum f := by
  rw [byteSum, Vector.toList_set, List.take_set_of_le hk, byteSum]

/-- Another byte at one of the offsets 0 to 9 changes the sum, and the transmitted checksum stays. -/
theorem csok_set_summed {f : Frame} {k : Fin 12} {b : Byte} (hok : csok f = true) (hk : k.val ≤ 9) (hb : b ≠ f[k]) :
    csok (f.set k b) = false := by
  have hsum := byteSum_set f k b hk
  have hne : b.toNat ≠ f[k].toNat := mt BitVec.toNat_inj.1 hb
  have h10 : (f.set k b)[10] = f[10] := Vector.getElem_set_ne _ _ (by omega)
  have h11 : (f.set k b)[11] = f[11] := Vector.getElem_set_ne _ _ (by omega)
  rw [csok_iff] at hok
  rw [csok_eq_false_iff, h10, h11]
  omega

/-- Another byte at offset 10 or 11 changes the transmitted checksum, and the sum stays. -/
theorem csok_set_transmitted {f : Frame} {k : Fin 12} {b : Byte} (hok : csok f = true) (hk : 10 ≤ k.val)
    (hb : b ≠ f[k]) : csok (f.set k b) = false := by
  have hsum := byteSum_set_of_ge f k b hk
  have hself : (f.set k b)[k] = b := Vector.getElem_set_self _
  by_contra hpass
  rw [Bool.not_eq_false, csok_iff, hsum] at hpass
  rw [csok_iff] at hok
  obtain ⟨h10, h11⟩ : (f.set k b)[10].toNat = f[10].toNat ∧ (f.set k b)[11].toNat = f[11].toNat := by omega
  refine hb (hself.symm.trans (BitVec.eq_of_toNat_eq ?_))
  obtain rfl | rfl : k = 10 ∨ k = 11 := by omega
  · exact h10
  · exact h11

/-- Changes at two offsets that keep the total of both bytes keep the sum. -/
theorem byteSum_set_set (f : Frame) {j k : Fin 12} {b c : Byte} (hne : j ≠ k) (hj : j.val ≤ 9) (hk : k.val ≤ 9)
    (htotal : b.toNat + c.toNat = f[j].toNat + f[k].toNat) : byteSum ((f.set j b).set k c) = byteSum f := by
  have hfirst := byteSum_set f j b hj
  have hsecond := byteSum_set (f.set j b) k c hk
  have hkept : (f.set j b)[k] = f[k] := Vector.getElem_set_ne _ _ (Fin.val_ne_of_ne hne)
  rw [hkept] at hsecond
  omega

/-- The sum does not depend on the order of the bytes summed. -/
theorem byteSum_of_perm {f g : Frame} (h : (g.toList.take 10).Perm (f.toList.take 10)) : byteSum g = byteSum f :=
  (h.map BitVec.toNat).sum_nat

/-- Settles O35: a single change moves one side of `csok_iff` only; the others keep `byteSum`. -/
theorem singleByteChangesAreDetected : Obligations.SingleByteChangesAreDetected := by
  refine ⟨fun f k b hok _ hb => ?_, fun f j k b c hne _ hj _ hk htotal => ?_, fun f g hperm => ?_⟩
  · rcases Nat.lt_or_ge 9 k.val with hk | hk
    · exact csok_set_transmitted hok hk hb
    · exact csok_set_summed hok hk hb
  · rw [csum16_eq_ofNat_byteSum, byteSum_set_set f hne hj hk htotal, ← csum16_eq_ofNat_byteSum]
  · rw [csum16_eq_ofNat_byteSum, byteSum_of_perm hperm, ← csum16_eq_ofNat_byteSum]

/-! ### The meaning of CHECK_EVAL (R144) -/

/-- Settles O10: the comparison of the two sums is that of their numbers, and each outcome is `finish`. -/
theorem checkValidatesAndDecodes : Obligations.CheckValidatesAndDecodes := by
  refine ⟨decode_stepWord .check, fun s d t v r l b sum rx hsum hrx => ?_⟩
  obtain rfl : (csum16 s.frame).toNat = sum := hsum ▸ BitVec.toNat_ofNat ..
  obtain rfl : (csrx s.frame).toNat = rx := (toNat_csrx _).trans hrx.symm
  rw [BitVec.ofNat_toNat, BitVec.ofNat_toNat, BitVec.setWidth_eq, BitVec.setWidth_eq, exec]
  rcases execCheckEval_cases s with ⟨heq, e⟩ | ⟨hne, e⟩
  · exact ⟨_, e, rfl, fun _ => rfl, fun h => absurd (congrArg BitVec.toNat heq) h⟩
  · exact ⟨_, e, rfl, fun h => absurd (BitVec.eq_of_toNat_eq h) hne, fun _ => rfl⟩

end Sys2Proof.Machine

namespace Sys2Proof.Machine

/-! ### EXTRACT3 and its inverse (R161, R165) -/

theorem highByte_be16 (hi lo : Byte) : highByte (be16 hi lo) = hi := by
  rw [be16_eq_append]
  exact BitVec.extractLsb'_append_eq_left

theorem lowByte_be16 (hi lo : Byte) : lowByte (be16 hi lo) = lo := by
  rw [be16_eq_append]
  exact BitVec.extractLsb'_append_eq_right

/-- The window that carries three values, each big-endian: what `FRAMEX` puts at frame offsets 4 to 9 (R81). -/
def windowOfValues (v : Value × Value × Value) : Vector Byte 6 :=
  #v[highByte v.1, lowByte v.1, highByte v.2.1, lowByte v.2.1, highByte v.2.2, lowByte v.2.2]

theorem window_framexBytes (b2 b3 : Byte) (a b c cs : Value) :
    window (framexBytes b2 b3 a b c cs) = windowOfValues (a, b, c) := rfl

/-- Values survive being split into bytes, lane by lane. -/
theorem extract3_windowOfValues (v : Value × Value × Value) : extract3 (windowOfValues v) = v :=
  Prod.ext (be16_highByte_lowByte v.1)
    (Prod.ext (be16_highByte_lowByte v.2.1) (be16_highByte_lowByte v.2.2))

/-- Window bytes survive being joined into values: an even byte is a high byte, an odd one a low byte. -/
theorem windowOfValues_extract3 (w : Vector Byte 6) : windowOfValues (extract3 w) = w := by
  apply Vector.ext
  intro j hj
  interval_cases j
  exacts [highByte_be16 .., lowByte_be16 .., highByte_be16 .., lowByte_be16 .., highByte_be16 .., lowByte_be16 ..]

theorem extract3_bijective : Function.Bijective extract3 :=
  Function.bijective_iff_has_inverse.2 ⟨windowOfValues, windowOfValues_extract3, extract3_windowOfValues⟩

/-- The window holds the frame bytes at offsets 4 to 9 (R161). -/
theorem getElem_eq_of_window_eq {f g : Frame} (h : window f = window g) {k : Fin 12} (h4 : 4 ≤ k.val)
    (h9 : k.val ≤ 9) : f[k] = g[k] := by
  obtain ⟨j, hj⟩ : ∃ j : Fin 6, k.val = 4 + j.val := ⟨⟨k.val - 4, by omega⟩, by simp; omega⟩
  have hbyte : f[4 + j.val] = g[4 + j.val] := by rw [← getElem_window, ← getElem_window, h]
  simpa [hj] using hbyte

/-- Settles O37: EXTRACT3 is undone by `windowOfValues`, so equal triples mean equal windows; whether the
frames pass does not matter. -/
theorem extractionIsABijection : Obligations.ExtractionIsABijection := by
  refine ⟨extract3_bijective, fun f g _ _ ⟨k, h4, h9, hne⟩ heq => hne ?_⟩
  exact getElem_eq_of_window_eq (extract3_bijective.injective heq) h4 h9

/-! ### A frame built from its values and its sum (R164) -/

/-- The transmitted checksum of `FRAMEX` is the one given (R81, R141). -/
theorem csrx_framexBytes (b2 b3 : Byte) (a b c cs : Value) : csrx (framexBytes b2 b3 a b c cs) = cs :=
  be16_highByte_lowByte cs

/-- The fields of `FRAMEX` are the values given (R81, R161). -/
theorem extract3_window_framexBytes (b2 b3 : Byte) (a b c cs : Value) :
    extract3 (window (framexBytes b2 b3 a b c cs)) = (a, b, c) := by
  rw [window_framexBytes, extract3_windowOfValues]

/-- Settles O36: sum and transmitted checksum are both `cs`, so CHECK_EVAL passes and decodes the window. -/
theorem frameRoundTrip : Obligations.FrameRoundTrip := by
  intro s b2 b3 a b c cs d t v r l x hsum hframe
  have hcalc : csum16 s.frame = cs := by rw [hframe, ← hsum]
  have hrx : csrx s.frame = cs := by rw [hframe, csrx_framexBytes]
  have hfields : extract3 (window s.frame) = (a, b, c) := by rw [hframe, extract3_window_framexBytes]
  rcases execCheckEval_cases s with ⟨_, hexec⟩ | ⟨hne, _⟩
  · rw [hfields, hcalc, hrx] at hexec
    exact ⟨_, hexec, rfl, rfl, rfl, rfl, rfl, rfl⟩
  · exact absurd (hcalc.trans hrx.symm) hne

end Sys2Proof.Machine

namespace Sys2Proof.Machine

/-! ### Outcomes, transition by transition (R180, R182, R185) -/

/-- A step without reset is a transition and the end of the cycle. -/
theorem transition_of_step {s t : State} (h : step s = .next t) (hrst : s.inputNow.rst = false) :
    ∃ u, Transition s.inputNow s u ∧ t = endCycle u := by
  rcases step_inversion h with ⟨hr, _⟩ | ⟨_, hu⟩
  · simp [hrst] at hr
  · exact hu

section Transition

variable {inp : Inputs} {s u : State} (h : Transition inp s u)
include h

/-- An outcome is recorded by exactly the transitions that enter DONE. -/
theorem transition_outcomeCount :
    (u.st = .done ∧ s.st ≠ .done ∧ u.outcomeCount = s.outcomeCount + 1)
    ∨ (u.st ≠ .done ∧ u.outcomeCount = s.outcomeCount) := by
  cases h with
  | idleNolink hst | huntDiscardLast hst | huntTimeoutLast hst | hdr1Mismatch hst | hdr1Timeout hst
  | payByteShort hst | payTimeout hst | checkPass hst | checkFail hst => exact .inl ⟨rfl, by simp [hst], rfl⟩
  | _ => exact .inr ⟨by simp [*], rfl⟩ -- the rule leaves a state other than DONE and counts nothing

theorem transition_of_done (hst : s.st = .done) : u = returnToIdle (beginRule s) := by
  cases h with
  | doneRet => rfl
  | _ => simp_all -- the rule is another state's

/-- CHECK_EVAL records an outcome either way (R144). -/
theorem transition_of_check (hst : s.st = .check) : u.st = .done := by
  cases h with
  | checkPass | checkFail => rfl
  | _ => simp_all -- the rule is another state's

theorem transition_to_idle (hu : u.st = .idle) : s.st = .idle ∨ s.st = .done ∨ s.st = .unused7 := by
  cases h with
  | idleWait hst => exact .inl hst
  | doneRet hst => exact .inr (.inl hst)
  | illegalState hst => exact .inr (.inr hst)
  | _ => simp [*] at hu -- the rule leaves a state other than IDLE

/-- No rule enters the unused state code (R45). -/
theorem transition_ne_unused7 : u.st ≠ .unused7 := by
  cases h <;> simp [*]

theorem transition_of_start (hst : s.st = .idle) (hs : inp.start = true) :
    u.st = if inp.linkOpen then .cmd else .done := by
  cases h with
  | idleStart _ _ hl | idleNolink _ _ hl => rw [hl]; rfl
  | _ => simp_all -- the rule is another state's, or needs `start` to be 0

end Transition

/-- Settles O21: the facts about a transition, with the end of the cycle. -/
theorem oneOutcomeOnEnteringDone : Obligations.OneOutcomeOnEnteringDone := by
  intro s t h hrst
  obtain ⟨u, hu, rfl⟩ := transition_of_step h hrst
  refine ⟨fun hd => ?_, fun hd => ?_, fun hst => ?_, fun hdone hunused hidle => ?_,
    fun hst hs => (transition_of_start hu hst hs :)⟩
  · rcases transition_outcomeCount hu with ⟨_, hcount⟩ | ⟨hne, _⟩
    · exact hcount
    · exact absurd hd hne
  · rcases transition_outcomeCount hu with ⟨heq, _⟩ | ⟨_, hcount⟩
    · exact absurd heq hd
    · exact hcount
  · rw [transition_of_done hu hst]; rfl
  · simpa [hdone, hunused] using transition_to_idle hu hidle

end Sys2Proof.Machine

namespace Sys2Proof.Machine

/-! ### Runs in which every cycle waits (R193) -/

/-- A run whose cycles all wait only passes the time. -/
theorem isRun_waits {n : Nat} {q : Nat → State} (hrun : IsRun n q)
    (hw : ∀ k, k < n → Waits (q 0).st (q k).inputNow) :
    ∀ k, k ≤ n → q k = waited k (q k).stimulus (q 0) := by
  intro k
  induction k with
  | zero => intro _; exact (waited_zero (q 0)).symm
  | succ k ih =>
    intro hk
    have hst : (q k).st = (q 0).st := (congrArg State.st (ih (by omega)) :)
    obtain ⟨hrst, hexec⟩ := hw k hk
    have hstep : step (q k) = .next (endCycle (beginRule (q k))) := by
      rw [step_of_not_rst hrst, hst, hexec]; rfl
    have hnext : q (k + 1) = endCycle (beginRule (q k)) := Host.Outcome.next.inj ((hrun k hk).symm.trans hstep)
    rw [hnext, ih (by omega)]
    simp [waited, endCycle, beginRule, Nat.add_assoc]

/-- Settles O48: a stall in CMD and a quiet cycle in a read state are waiting cycles. -/
theorem hangsNeverEnd : Obligations.HangsNeverEnd := by
  intro n q hrun hrst
  refine ⟨fun hst hready k hk => ?_, fun hread hquiet k hk => ?_⟩
  · have hw : q k = waited k (q k).stimulus (q 0) :=
      isRun_waits hrun (fun j hj => hst ▸ waits_of_stall (hrst j hj) (hready j hj)) k hk
    have hsame : (q k).st = .cmd := (congrArg State.st hw :).trans hst
    exact ⟨hsame, bne_iff_ne.2 (by simp [hsame]), (congrArg State.cmdIdx hw :), (congrArg State.txLog hw :)⟩
  · have hst := (rxReady_iff (q 0)).1 hread
    have hw : q k = waited k (q k).stimulus (q 0) :=
      isRun_waits hrun (fun j hj => waits_of_quiet hst (hrst j hj) (by simp [quiet, hquiet j hj])) k hk
    have hsame : (q k).st = (q 0).st := (congrArg State.st hw :)
    exact ⟨hsame, bne_iff_ne.2 (by rcases hst with h | h | h <;> simp [hsame, h]), (congrArg State.rxLog hw :)⟩

end Sys2Proof.Machine

namespace Sys2Proof.Machine

/-! ### A poll from its start to the first return to IDLE (R182) -/

section Poll

variable {n : Nat} {q : Nat → State} (hrun : IsRun n q) (hrst : NoReset n q)
include hrun hrst

theorem isRun_transition {k : Nat} (hk : k < n) :
    ∃ u, Transition (q k).inputNow (q k) u ∧ q (k + 1) = endCycle u :=
  transition_of_step (hrun k hk) (hrst k hk)

theorem isRun_ne_unused7 {k : Nat} (hk : k < n) : (q (k + 1)).st ≠ .unused7 := by
  obtain ⟨u, hu, hq⟩ := isRun_transition hrun hrst hk
  rw [hq, endCycle_st]
  exact transition_ne_unused7 hu

/-- A cycle that does not enter DONE keeps the count of outcomes. -/
theorem isRun_outcomeCount_of_ne_done {k : Nat} (hk : k < n) (hd : (q (k + 1)).st ≠ .done) :
    (q (k + 1)).outcomeCount = (q k).outcomeCount := by
  obtain ⟨_, hkeeps, _⟩ := oneOutcomeOnEnteringDone _ _ (hrun k hk) (hrst k hk)
  exact hkeeps hd

theorem isRun_outcomeCount_of_done {k : Nat} (hk : k < n) (hd : (q (k + 1)).st = .done) :
    (q (k + 1)).outcomeCount = (q k).outcomeCount + 1 := by
  obtain ⟨hcounts, _⟩ := oneOutcomeOnEnteringDone _ _ (hrun k hk) (hrst k hk)
  exact (hcounts hd).2

theorem isRun_outcomeCount_of_no_done {m : Nat} (hm : m ≤ n) (hd : ∀ k, 0 < k → k ≤ m → (q k).st ≠ .done) :
    ∀ k, k ≤ m → (q k).outcomeCount = (q 0).outcomeCount := by
  intro k
  induction k with
  | zero => exact fun _ => rfl
  | succ k ih =>
    intro hk
    rw [isRun_outcomeCount_of_ne_done hrun hrst (by omega) (hd (k + 1) k.succ_pos hk), ih (by omega)]

/-- A run that leaves IDLE and is in IDLE again is in DONE in the cycle before the return. -/
theorem isRun_done_before_idle {k : Nat} (hk : k + 1 < n) (hbusy : (q (k + 1)).st ≠ .idle)
    (hidle : (q (k + 2)).st = .idle) : (q (k + 1)).st = .done := by
  obtain ⟨u, hu, hq⟩ := isRun_transition hrun hrst hk
  rw [hq] at hidle
  simpa [hbusy, isRun_ne_unused7 hrun hrst (show k < n by omega)] using transition_to_idle hu hidle

theorem isRun_idle_after_done {k : Nat} (hk : k < n) (hd : (q k).st = .done) :
    (q (k + 1)).st = .idle ∧ (q (k + 1)).resStatus = (q k).resStatus := by
  obtain ⟨u, hu, hq⟩ := isRun_transition hrun hrst hk
  rw [hq, transition_of_done hu hd]
  exact ⟨rfl, rfl⟩

theorem isRun_leaves_idle (hn : 0 < n) (hst : (q 0).st = .idle) (hs : (q 0).inputNow.start = true) :
    (q 1).st = .cmd ∨ (q 1).st = .done := by
  obtain ⟨u, hu, hq⟩ := isRun_transition hrun hrst hn
  rw [hq, endCycle_st, transition_of_start hu hst hs]
  cases (q 0).inputNow.linkOpen
  · exact .inr rfl
  · exact .inl rfl

end Poll

/-- Settles O46: the cycle before the return to IDLE is in DONE; an earlier one in DONE would have been an
earlier return. -/
theorem everyPollRecordsOneOutcome : Obligations.EveryPollRecordsOneOutcome := by
  intro n q hrun hrst hst hs hn hbusy hidle
  obtain ⟨m, rfl⟩ : ∃ m, n = m + 2 := by
    have hne : n ≠ 1 := by
      rintro rfl
      rcases isRun_leaves_idle hrun hrst hn hst hs with h | h <;> simp [hidle] at h
    exact ⟨n - 2, by omega⟩
  have hdone : (q (m + 1)).st = .done :=
    isRun_done_before_idle hrun hrst (by omega) (hbusy (m + 1) (by omega) (by omega)) hidle
  have hnotdone : ∀ k, k ≤ m → (q k).st ≠ .done := fun k hk hd =>
    hbusy (k + 1) (by omega) (by omega) (isRun_idle_after_done hrun hrst (by omega) hd).1
  have hcount : ∀ k, k ≤ m → (q k).outcomeCount = (q 0).outcomeCount :=
    isRun_outcomeCount_of_no_done hrun hrst (by omega) fun k _ hk => hnotdone k hk
  have hrecorded : (q (m + 1)).outcomeCount = (q 0).outcomeCount + 1 := by
    rw [isRun_outcomeCount_of_done hrun hrst (by omega) hdone, hcount m le_rfl]
  refine ⟨m, rfl, beq_iff_eq.2 hdone, hrecorded, ?_, (isRun_idle_after_done hrun hrst (by omega) hdone).2,
    fun k hk => ⟨beq_eq_false_iff_ne.2 (hnotdone k hk), hcount k hk⟩⟩
  rw [isRun_outcomeCount_of_ne_done hrun hrst (by omega) (by simp [hidle]), hrecorded]

end Sys2Proof.Machine

namespace Sys2Proof.Machine

/-! ### The bound on a poll (R192): seven takings, twelve read operations, and the last two cycles -/

/-- `Left r` says that at most `r` operations are left, the current one included. An operation begins in a
`begins` state; every cycle that does not end it keeps the number, and the cycle that ends it reaches the
goal or begins the next of fewer operations. -/
structure Countdown (Left : Nat → State → Prop) (begins ends goal : State → Prop) : Prop where
  none : ∀ {s}, ¬ Left 0 s
  waits : ∀ {r s u}, Transition s.inputNow s u → Left r s → ¬ ends s → Left r (endCycle u)
  next : ∀ {r s u}, Transition s.inputNow s u → Left (r + 1) s → ends s →
    goal (endCycle u) ∨ (Left r (endCycle u) ∧ begins (endCycle u))

section Countdown

variable {Left : Nat → State → Prop} {begins ends goal : State → Prop} (hc : Countdown Left begins ends goal)
  {n : Nat} {q : Nat → State} (hrun : IsRun n q) (hrst : NoReset n q)
include hc hrun hrst

/-- An operation that ends within `w` cycles has a first ending cycle among them, up to which it goes on. -/
theorem Countdown.exists_end {r k w : Nat} (hkw : k + w ≤ n) (hleft : Left r (q k))
    (hend : ∃ j, j < w ∧ ends (q (k + j))) : ∃ j, j < w ∧ Left r (q (k + j)) ∧ ends (q (k + j)) := by
  by_contra hno
  have hopen : ∀ j, j < w → Left r (q (k + j)) := by
    intro j
    induction j with
    | zero => exact fun _ => hleft
    | succ j ih =>
      intro hj
      have hl := ih (by omega)
      obtain ⟨u, hu, hq⟩ := isRun_transition hrun hrst (show k + j < n by omega)
      rw [← Nat.add_assoc, hq]
      exact hc.waits hu hl fun he => hno ⟨j, by omega, hl, he⟩
  obtain ⟨j, hj, he⟩ := hend
  exact hno ⟨j, hj, hopen j hj, he⟩

/-- If every operation begun ends within `w` cycles, `r` of them lead to the goal within `r * w`. -/
theorem Countdown.reaches {w : Nat}
    (hwithin : ∀ k, k + w ≤ n → begins (q k) → ∃ j, j < w ∧ ends (q (k + j))) :
    ∀ r k, Left r (q k) → begins (q k) → k + r * w ≤ n → ∃ i, i ≤ k + r * w ∧ goal (q i) := by
  intro r
  induction r with
  | zero => exact fun k hleft => absurd hleft hc.none
  | succ r ih =>
    intro k hleft hbegins hk
    rw [Nat.succ_mul] at hk ⊢
    obtain ⟨j, hj, hl, he⟩ := hc.exists_end hrun hrst (by omega) hleft (hwithin k (by omega) hbegins)
    obtain ⟨u, hu, hq⟩ := isRun_transition hrun hrst (show k + j < n by omega)
    rcases hc.next hu hl he with hgoal | ⟨hl', hb'⟩
    · exact ⟨k + j + 1, by omega, hq ▸ hgoal⟩
    · obtain ⟨i, hi, hgoal⟩ := ih (k + j + 1) (hq ▸ hl') (hq ▸ hb') (by omega)
      exact ⟨i, by omega, hgoal⟩

end Countdown

/-! The seven takings of the command (R104). -/

/-- CMD with at most `r` bytes to send. -/
def BytesLeft (r : Nat) (s : State) : Prop := s.st = .cmd ∧ s.cmdIdx.toNat ≤ 6 ∧ 7 ≤ s.cmdIdx.toNat + r

/-- HUNT in the first cycle of its first attempt. -/
def BeginsHunt (s : State) : Prop := s.st = .hunt ∧ s.huntCnt = 0 ∧ s.rdStartQ = true

theorem bytesCountdown :
    Countdown BytesLeft (·.outputs.txValid = true) (·.inputNow.txReady = true) BeginsHunt where
  none := fun ⟨_, hle, hge⟩ => by omega
  waits := by
    intro r s u hu hleft hstall
    cases hu with
    | cmdStall => exact hleft
    | _ => simp_all [BytesLeft] -- another state's rule, or the byte is taken
  next := by
    intro r s u hu hleft htaken
    obtain ⟨hst, hle, hge⟩ := hleft
    cases hu with
    | cmdSendLast => exact .inl ⟨rfl, rfl, rfl⟩
    | cmdSend _ _ h6 =>
      have hsucc : (s.cmdIdx + 1).toNat = s.cmdIdx.toNat + 1 := by bv_omega
      have hle' : (s.cmdIdx + 1).toNat ≤ 6 := by omega
      have hge' : 7 ≤ (s.cmdIdx + 1).toNat + r := by omega
      exact .inr ⟨⟨hst, hle', hge'⟩, beq_iff_eq.2 hst⟩
    | _ => simp_all -- another state's rule, or the byte is not taken

/-! The twelve read operations: ten attempts, the second header byte, the payload (R119). -/

/-- A read state with at most `r` read operations left, the current one included. -/
def ReadsLeft (r : Nat) (s : State) : Prop :=
  (s.st = .hunt ∧ s.huntCnt.toNat ≤ 9 ∧ 12 ≤ s.huntCnt.toNat + r)
  ∨ (s.st = .hdr1 ∧ 2 ≤ r) ∨ (s.st = .payload ∧ 1 ≤ r)

/-- The last read operation is over: CHECK or DONE. -/
def ReadsOver (s : State) : Prop := s.st = .check ∨ s.st = .done

theorem payCnt_eq_nine_iff (s : State) : s.payCnt = 9#4 ↔ s.payCnt.toNat = 9 := BitVec.toNat_inj.symm

theorem endsRead_iff (s : State) : s.endsRead = true ↔
    ((s.st = .hunt ∨ s.st = .hdr1) ∧ (s.inputNow.rxValid = true ∨ s.inputNow.rdTimeout = true))
    ∨ (s.st = .payload ∧ (s.inputNow.rdTimeout = true ∨ (s.inputNow.rxValid = true ∧ s.payCnt.toNat = 9))) := by
  simp [State.endsRead, payCnt_eq_nine_iff, or_and_right]

theorem ReadsLeft.of_same {r : Nat} {s t : State} (h : ReadsLeft r s) (hst : t.st = s.st)
    (hcnt : t.huntCnt = s.huntCnt) : ReadsLeft r t := by
  unfold ReadsLeft
  rwa [hst, hcnt]

theorem readsCountdown :
    Countdown ReadsLeft (·.outputs.rdStart = true) (·.endsRead = true) ReadsOver where
  none := by
    rintro s (⟨_, hle, hge⟩ | ⟨_, hge⟩ | ⟨_, hge⟩) <;> omega
  waits := by
    intro r s u hu hleft hopen
    rw [endsRead_iff] at hopen
    cases hu with
    | huntWait | hdr1Wait | payWait | payByte => exact hleft.of_same rfl rfl
    | _ => simp_all [ReadsLeft] -- the rule is no read state's, or its guard ends the read
  next := by
    intro r s u hu hleft hends
    rw [endsRead_iff] at hends
    cases hu with
    | huntMatch hst =>
      have hr : 2 ≤ r := by simp [ReadsLeft, hst] at hleft; omega
      exact .inr ⟨.inr (.inl ⟨rfl, hr⟩), rfl⟩
    | huntDiscard hst _ _ h9 | huntTimeout hst _ _ h9 =>
      obtain ⟨hle, hge⟩ : s.huntCnt.toNat ≤ 9 ∧ 12 ≤ s.huntCnt.toNat + (r + 1) := by
        simpa [ReadsLeft, hst] using hleft
      have hsucc := toNat_succ hle
      have hle' : (s.huntCnt + 1).toNat ≤ 9 := by omega
      have hge' : 12 ≤ (s.huntCnt + 1).toNat + r := by omega
      exact .inr ⟨.inl ⟨hst, hle', hge'⟩, rfl⟩
    | hdr1Match hst =>
      have hr : 1 ≤ r := by simpa [ReadsLeft, hst] using hleft
      exact .inr ⟨.inr (.inr ⟨rfl, hr⟩), rfl⟩
    | payByteLast => exact .inl (.inl rfl)
    | huntDiscardLast | huntTimeoutLast | hdr1Mismatch | hdr1Timeout | payByteShort | payTimeout =>
      exact .inl (.inr rfl)
    | _ => simp_all [ReadsLeft] -- the rule is no read state's, or its guard does not end the read

section Bound

variable {n : Nat} {q : Nat → State} (hrun : IsRun n q) (hrst : NoReset n q)
include hrun hrst

theorem isRun_done_after_check {k : Nat} (hk : k < n) (hst : (q k).st = .check) : (q (k + 1)).st = .done := by
  obtain ⟨u, hu, hq⟩ := isRun_transition hrun hrst hk
  rw [hq, endCycle_st, transition_of_check hu hst]

/-- From CHECK the block is back in IDLE after two cycles, from DONE after one. -/
theorem isRun_idle_after_reads {k : Nat} (hk : k + 2 ≤ n) (hover : ReadsOver (q k)) :
    ∃ i, k < i ∧ i ≤ k + 2 ∧ (q i).st = .idle := by
  rcases hover with hst | hst
  · have hdone := isRun_done_after_check hrun hrst (by omega) hst
    exact ⟨k + 2, by omega, le_rfl, (isRun_idle_after_done hrun hrst (by omega) hdone).1⟩
  · exact ⟨k + 1, by omega, by omega, (isRun_idle_after_done hrun hrst (by omega) hst).1⟩

/-- Seven takings of at most `nTx` cycles, then twelve read operations of at most `tRead`. -/
theorem isRun_reads_over {nTx tRead : Nat} (htx : TxWithin nTx n q) (hrd : ReadsWithin tRead n q)
    (hn : 1 + 7 * nTx + 12 * tRead ≤ n) (hst : (q 1).st = .cmd) (hidx : (q 1).cmdIdx = 0) :
    ∃ i, i ≤ 1 + 7 * nTx + 12 * tRead ∧ ReadsOver (q i) := by
  have hleft : BytesLeft 7 (q 1) := by simp [BytesLeft, hst, hidx]
  obtain ⟨i, hi, hhunt, hcnt, hstart⟩ :=
    bytesCountdown.reaches hrun hrst htx 7 1 hleft (beq_iff_eq.2 hst) (by omega)
  have hreads : ReadsLeft 12 (q i) := .inl ⟨hhunt, by simp [hcnt], by simp [hcnt]⟩
  obtain ⟨j, hj, hover⟩ := readsCountdown.reaches hrun hrst hrd 12 i hreads hstart (by omega)
  exact ⟨j, by omega, hover⟩

/-- A poll under the contract of R192 returns to IDLE. -/
theorem isRun_returns {nTx tRead : Nat} (hn : n = 1 + 7 * nTx + 12 * tRead + 2) (htx : TxWithin nTx n q)
    (hrd : ReadsWithin tRead n q) (hst : (q 0).st = .idle) (hs : (q 0).inputNow.start = true) :
    ∃ k, 0 < k ∧ k ≤ n ∧ (q k).st = .idle := by
  obtain ⟨k, hk, hover⟩ : ∃ k, k ≤ 1 + 7 * nTx + 12 * tRead ∧ ReadsOver (q k) := by
    obtain ⟨u, hu, hq⟩ := isRun_transition hrun hrst (show 0 < n by omega)
    cases hu with
    | idleNolink => exact ⟨1, by omega, .inr (congrArg State.st hq)⟩
    | idleStart =>
      exact isRun_reads_over hrun hrst htx hrd (by omega) (congrArg State.st hq) (congrArg State.cmdIdx hq)
    | _ => simp_all -- the rule is another state's, or needs `start` to be 0
  obtain ⟨i, hki, hi, hidle⟩ := isRun_idle_after_reads hrun hrst (by omega) hover
  exact ⟨i, by omega, by omega, hidle⟩

end Bound

/-- Settles O47: the poll returns within the bound, and up to its first return it records one outcome (O46). -/
theorem pollsEndWithinTheBound : Obligations.PollsEndWithinTheBound := by
  intro nTx tRead n q hn hrun hrst htx hrd hst hs
  have hreturns := isRun_returns hrun hrst hn htx hrd hst hs
  obtain ⟨hpos, hle, hidle⟩ := Nat.find_spec hreturns
  have hfirst : ∀ k, 0 < k → k < Nat.find hreturns → (q k).st ≠ .idle := fun k h0 hk hk' =>
    Nat.find_min hreturns hk ⟨h0, by omega, hk'⟩
  obtain ⟨_, _, _, _, hcount, _⟩ := everyPollRecordsOneOutcome (Nat.find hreturns) q
    (fun k hk => hrun k (by omega)) (fun k hk => hrst k (by omega)) hst hs hpos hfirst hidle
  exact ⟨_, hpos, hle, hidle, hcount⟩

end Sys2Proof.Machine

namespace Sys2Proof.Machine

/-! ### What a cycle moves on the two streams (R22, R222) -/

/-- The bytes that the receive handshake of the cycle consumes: one or none. -/
def rxMoved (inp : Inputs) (s : State) : List Byte := if rxFire inp s then [inp.rxData] else []

/-- The bytes that the transmit handshake of the cycle transfers: one or none. -/
def txMoved (inp : Inputs) (s : State) : List Byte := if txFire inp s then [s.txData] else []

/-- From `s` to `u` the two streams have moved as the handshakes of the cycle show. -/
def StreamsMove (inp : Inputs) (s u : State) : Prop :=
  u.rxLog = s.rxLog ++ rxMoved inp s ∧ u.txLog = s.txLog ++ txMoved inp s

/-- The block offers a command byte in CMD only, where it is not ready to receive. -/
theorem txValid_eq_false_of_rxReady {s : State} (h : s.rxReady = true) : s.txValid = false := by
  rcases (rxReady_iff s).1 h with hst | hst | hst <;> simp [State.txValid, hst]

theorem rxFire_eq_false_or_txFire_eq_false (inp : Inputs) (s : State) : rxFire inp s = false ∨ txFire inp s = false := by
  cases hready : s.rxReady with
  | false => exact .inl (by simp [rxFire, hready])
  | true => exact .inr (by simp [txFire, txValid_eq_false_of_rxReady hready])

section StreamsMove

variable {inp : Inputs} {s u : State}

theorem streamsMove_of_none (hnorx : rxFire inp s = false) (hnotx : txFire inp s = false)
    (hrx : u.rxLog = s.rxLog) (htx : u.txLog = s.txLog) : StreamsMove inp s u := by
  simp [StreamsMove, rxMoved, txMoved, hnorx, hnotx, hrx, htx]

theorem streamsMove_of_rx (hready : s.rxReady = true) (hv : inp.rxValid = true)
    (hrx : u.rxLog = s.rxLog ++ [inp.rxData]) (htx : u.txLog = s.txLog) : StreamsMove inp s u := by
  have hfire : rxFire inp s = true := by simp [rxFire, hready, hv]
  have hno : txFire inp s = false := by simp [txFire, txValid_eq_false_of_rxReady hready]
  simp [StreamsMove, rxMoved, txMoved, hfire, hno, hrx, htx]

theorem streamsMove_of_tx (hst : s.st = .cmd) (hready : inp.txReady = true)
    (hrx : u.rxLog = s.rxLog) (htx : u.txLog = s.txLog ++ [s.cmdByte]) : StreamsMove inp s u := by
  have hfire : txFire inp s = true := by simp [txFire, State.txValid, hst, hready]
  have hno : rxFire inp s = false := by simp [rxFire, State.rxReady, hst]
  simp [StreamsMove, rxMoved, txMoved, hfire, hno, hrx, htx, txData_of_cmd hst]

/-- The rules that take or send a byte are those whose handshake fires. -/
theorem transition_streamsMove (h : Transition inp s u) : StreamsMove inp s u := by
  cases h with
  | cmdSendLast hst hr | cmdSend hst hr => exact streamsMove_of_tx hst hr rfl rfl
  | huntMatch hst hv hd => exact streamsMove_of_rx ((rxReady_iff s).2 (.inl hst)) hv (by rw [hd]; rfl) rfl
  | huntDiscardLast hst hv | huntDiscard hst hv =>
    exact streamsMove_of_rx ((rxReady_iff s).2 (.inl hst)) hv rfl rfl
  | hdr1Match hst hv hd => exact streamsMove_of_rx ((rxReady_iff s).2 (.inr (.inl hst))) hv (by rw [hd]; rfl) rfl
  | hdr1Mismatch hst hv => exact streamsMove_of_rx ((rxReady_iff s).2 (.inr (.inl hst))) hv rfl rfl
  | payByteLast hst hv | payByteShort hst hv | payByte hst hv =>
    exact streamsMove_of_rx ((rxReady_iff s).2 (.inr (.inr hst))) hv rfl rfl
  | _ => -- the state has no ready or valid output, or the input that meets it is 0
    exact streamsMove_of_none (by simp [rxFire, State.rxReady, *]) (by simp [txFire, State.txValid, *]) rfl rfl

/-- The transfers of a reset cycle are those its handshakes show (R210). -/
theorem resetCycle_streamsMove (inp : Inputs) (s : State) : StreamsMove inp s (resetCycle inp s) := by
  constructor
  · cases hrx : rxFire inp s <;> simp [resetCycle, rxMoved, hrx]
  · cases htx : txFire inp s <;> simp [resetCycle, txMoved, htx]

theorem StreamsMove.endCycle (h : StreamsMove inp s u) : StreamsMove inp s (endCycle u) := h

/-- At most one of the two streams has moved (R222). -/
theorem StreamsMove.one_stays (h : StreamsMove inp s u) : u.rxLog = s.rxLog ∨ u.txLog = s.txLog := by
  obtain ⟨hrx, htx⟩ := h
  rcases rxFire_eq_false_or_txFire_eq_false inp s with hno | hno
  · exact .inl (by simp [hrx, rxMoved, hno])
  · exact .inr (by simp [htx, txMoved, hno])

theorem step_streamsMove (h : step s = .next u) : StreamsMove s.inputNow s u := by
  rcases step_inversion h with ⟨_, rfl⟩ | ⟨_, v, hv, rfl⟩
  · exact (resetCycle_streamsMove s.inputNow s).endCycle
  · exact (transition_streamsMove hv).endCycle

end StreamsMove

/-- Settles O19: every step moves the streams by its handshakes, and the two never fire in one cycle. -/
theorem handshakesMoveTheStreams : Obligations.HandshakesMoveTheStreams := by
  intro s t h
  obtain ⟨hrx, htx⟩ := step_streamsMove h
  exact ⟨hrx, htx, (step_streamsMove h).one_stays⟩

/-! ### The result ports in the reachable states (R218) -/

/-- Settles O31: the agreement of results and status is part of the invariant, which `Reachable.inv` carries
to every reachable state; `busy` and `done` are tests of `st` (R33). -/
theorem resultsReadWithTheirStatus : Obligations.ResultsReadWithTheirStatus := by
  intro s h
  obtain ⟨hbusy, hdone, _⟩ := outputsFollowTheState s
  obtain ⟨hrunning, hrecorded, hreserved, hvalues, hequal, hunequal, hzero⟩ := h.inv.results
  refine ⟨fun hb hd => hrunning (hbusy.1 hb) fun hst => ?_, fun hd => hrecorded (hdone.1 hd), hreserved, hvalues,
    hequal, hunequal, hzero⟩
  exact Bool.false_ne_true (hd.symm.trans (hdone.2 hst))

/-! ### The reset cycle and the clean entry (R210, R213) -/

/-- Settles O14: the registers have their reset values, and the streams have moved by the handshakes. -/
theorem resetLoadsTheResetValues : Obligations.ResetLoadsTheResetValues := by
  intro s hrst
  obtain ⟨hst, hidx, hhunt, hpay, hrd, hstatus, ⟨h0, h1, h2⟩, ⟨hcalc, hcrx⟩, hcount⟩ :=
    resetCycle_afterReset s.inputNow s
  obtain ⟨hrx, htx⟩ := (resetCycle_streamsMove s.inputNow s).endCycle
  exact ⟨_, step_of_rst hrst, hst, hidx, hhunt, hpay, hrd, hstatus, h0, h1, h2, hcalc, hcrx, hrx, htx, rfl, hcount,
    rfl, rfl⟩

/-- With the reset values in its registers the block is at its clean entry. -/
theorem State.AfterReset.cleanEntry {s : State} (h : s.AfterReset) : s.CleanEntry where
  st := h.st
  busy := by simp [State.outputs, State.busy, h.st]
  done := by simp [State.outputs, State.done, h.st]
  txValid := by simp [State.outputs, State.txValid, h.st]
  rxReady := by simp [State.outputs, State.rxReady, h.st]
  rdStart := h.rdStartQ
  resStatus := h.resStatus
  values := h.values
  sums := h.sums

theorem cleanEntry_of_step_of_rst {s t : State} (hrst : s.inputNow.rst = true) (h : step s = .next t) :
    t.CleanEntry := by
  obtain rfl := Host.Outcome.next.inj ((step_of_rst hrst).symm.trans h)
  exact (resetCycle_afterReset s.inputNow s).cleanEntry

/-- Settles O15: the list of the clean entry, clause by clause. -/
theorem resetGivesACleanEntry : Obligations.ResetGivesACleanEntry := by
  intro s t hrst h
  obtain ⟨hst, hbusy, hdone, htx, hrx, hrd, hstatus, ⟨h0, h1, h2⟩, ⟨hcalc, hcrx⟩⟩ := cleanEntry_of_step_of_rst hrst h
  exact ⟨hst, hbusy, hdone, htx, hrx, hrd, hstatus, h0, h1, h2, hcalc, hcrx⟩

end Sys2Proof.Machine
